-- ==== Sys2Proof/Word.lean ====
section
/-! DEFINITION. The widths of the block's values (spec 10_state R10, 20_memory R42). All are unsigned, bit 0 the
least significant (00_scope R7). -/

namespace Sys2Proof

/-- A duty cycle: DUTY, TARGET and the PWM write value, 7 bits (R13, R14, R45). -/
abbrev Duty := BitVec 7

/-- A speed level: SPEED and PEND, 3 bits (R12, R15). -/
abbrev Level := BitVec 3

/-- TICK_CNT and TICK_LIMIT, 16 bits (R23, R24). -/
abbrev TickCount := BitVec 16

/-- The opaque interval selector, PRESC_SEL, 8 bits (R25). -/
abbrev Selector := BitVec 8

/-- A key code, 4 bits (R61). -/
abbrev KeyCode := BitVec 4

/-- The configure word, 24 bits (R66). -/
abbrev ConfigWord := BitVec 24

end Sys2Proof
end

