-- ==== Sys2Proof/Syntax.lean ====
section
/-! DEFINITION. The operations of the block (one constructor per row of spec/opcode_table.json, 30_encoding R72), the
formats they are encoded in (R60), the commands a key selects (R61), and the stimuli of the trace syntax (R73). -/

namespace Sys2Proof

/-- The operations, one constructor per row of the opcode table. -/
inductive Instr where
  /-- CONFIGURE, all 24 bits operand (R66, R80, R81, R84). -/
  | configure (intervalSelector : Selector) (tickLimit : TickCount)
  /-- TICK, the single bit tick_i (R69, R82, R83). -/
  | tick
  /-- NOKEY, a poll that returns no key (R92). -/
  | nokey
  /-- SET_SPEED, the row of the codes 0x0 to 0x7; the operand is the whole code (R62, R104). -/
  | setSpeed (n : KeyCode)
  /-- SET_SPEED, the row of the codes 0x8 and 0x9; the operand is the whole code (R62, R104). -/
  | setSpeedHigh (n : KeyCode)
  /-- SELECT_ECO, code 0xA (R100). -/
  | selectEco
  /-- SELECT_SPORT, code 0xB (R101). -/
  | selectSport
  /-- STOP, code 0xC; the dispatch step only (R102). -/
  | stop
  /-- START, code 0xD (R103). -/
  | start
  /-- UNRECOGNIZED, the reserved codes 0xE and 0xF; the whole code is reported (R63, R108). -/
  | unrecognized (c : KeyCode)
  /-- RAMP_STEP, PHASE = 1 (R120, R121). -/
  | rampStep
  /-- STOP_STEP, PHASE = 2 (R122, R123). -/
  | stopStep
  /-- PENALTY_EXIT, PHASE = 3 (R124). -/
  | penaltyExit
  /-- DLY_HOLD, any PHASE p while DLY is not 0 (R125). -/
  | dlyHold (p : BitVec 2)
  /-- KEYPOLL, PHASE = 0 (R90). -/
  | keypoll
  deriving DecidableEq, Repr

/-- The commands a pressed key selects (R61, R93): the rows of the formats K-D and K-C. -/
inductive Command where
  | setSpeed (n : KeyCode)
  | setSpeedHigh (n : KeyCode)
  | selectEco
  | selectSport
  | stop
  | start
  | unrecognized (c : KeyCode)
  deriving DecidableEq, Repr

/-- The row of the opcode table a command is. -/
def Command.instr : Command → Instr
  | .setSpeed n => .setSpeed n
  | .setSpeedHigh n => .setSpeedHigh n
  | .selectEco => .selectEco
  | .selectSport => .selectSport
  | .stop => .stop
  | .start => .start
  | .unrecognized c => .unrecognized c

/-- The formats of the opcode table (R60, R72). -/
inductive Format where
  | cfg
  | evt
  | kNone
  | kD
  | kC
  | seq
  deriving DecidableEq, Repr

/-- What the decoder reads, by the place it stands at (R60): the block has no instruction store, so a word comes with
its port or, for the sequencer, from its own state. -/
inductive PortWord where
  /-- cfg_word_i while cfg_valid_i = 1. -/
  | cfg (w : ConfigWord)
  /-- tick_i. -/
  | evt (b : BitVec 1)
  /-- key_valid_i = 0 at a poll. -/
  | noKey
  /-- key_code_i while key_valid_i = 1. -/
  | key (c : KeyCode)
  /-- The sequencer's PHASE, and whether DLY is not 0 (R68). -/
  | seq (phase : BitVec 2) (hold : Bool)
  deriving DecidableEq, Repr

/-- Why the decoder gives no operation. -/
inductive DecodeError where
  /-- tick_i = 0 selects no step (R69). -/
  | noFiring
  /-- No row of the opcode table has this many bits. -/
  | noSuchWidth (nbits : Nat)
  /-- A bit beyond the row's width is not 0. -/
  | bitsBeyondWidth (w : Nat)
  deriving DecidableEq, Repr

/-- What the outside world presents for one atomic step: the lines of the trace syntax (R73). -/
inductive Stimulus where
  /-- RESET: rst = 1 (R41, R170). -/
  | reset
  /-- CFG s, l: cfg_valid_i = 1 with this word (R66). -/
  | configure (w : ConfigWord)
  /-- TICK: tick_i = 1 (R69). -/
  | tick
  /-- STEP or STEP k: one sequencer step; the key ports present no key or the key k (R44). -/
  | sequencer (key : Option KeyCode)
  deriving DecidableEq, Repr, Inhabited

end Sys2Proof
end

