-- ==== Sys2Proof/Config.lean ====
section
/-! DEFINITION. What one implementation fixes (00_scope R6) and the free values (93_implementation_defined U1, U2):
constants without a body, so that nothing proved about the machine rests on a value of theirs. -/

namespace Sys2Proof

/-- RAMP_STEP_DELAY, an open natural number (R6, D10). -/
opaque Config.rampStepDelay : Nat

/-- How much BAD_SHIFT_DELAY exceeds RAMP_STEP_DELAY + 1: any natural number. -/
opaque Config.badShiftExcess : Nat

/-- BAD_SHIFT_DELAY: every value with RAMP_STEP_DELAY < BAD_SHIFT_DELAY, and no other (R6, R190). -/
def Config.badShiftDelay : Nat := Config.rampStepDelay + 1 + Config.badShiftExcess

/-- FREE VALUE: what the outside world presents at the n-th step that no listed input decides: the agent that moves
next, the key, the configure word (R44, R51; U1, U2, U8, U17). -/
opaque Config.environment : Nat → Stimulus

end Sys2Proof
end

