-- ==== Sys2Proof/Machine/State.lean ====
section
/-! DEFINITION. The state: the thirteen registers (10_state R10), the value the PWM Sink holds (R27), the output trace
(00_scope R9), and the environment's inputs. Plain data. The block has no memory (20_memory R40). -/

namespace Sys2Proof.Machine

/-- MODE (R11): 0 = Eco, 1 = Sport. -/
inductive DriveMode where
  | eco
  | sport
  deriving DecidableEq, Repr

/-- PHASE (R17): the position in the polling loop. -/
inductive Phase where
  | idle
  | ramp
  | stopRamp
  | penalty
  deriving DecidableEq, Repr

/-- The display events the block emits (R70). -/
inductive DispCode where
  | modeEco
  | modeSport
  | stopped
  | clearProc
  | badShift
  deriving DecidableEq, Repr

/-- The diagnostic events the block emits (R71). -/
inductive LogCode where
  | invalidDigit
  | unrecognized
  deriving DecidableEq, Repr

/-- The events of the output trace (R8, R9). -/
inductive Event where
  | pwm (v : Duty)
  | disp (code : DispCode)
  | log (code : LogCode) (arg : KeyCode)
  | ack
  | maint
  deriving DecidableEq, Repr

/-- The state of the machine. -/
structure State where
  /-- MODE, 1 bit (R11). -/
  mode : DriveMode
  /-- SPEED, 3 bits (R12). -/
  speed : Level
  /-- DUTY, 7 bits (R13). -/
  duty : Duty
  /-- TARGET, 7 bits (R14). -/
  target : Duty
  /-- PEND, 3 bits (R15). -/
  pend : Level
  /-- TICK_CNT, 16 bits (R23). -/
  tickCnt : TickCount
  /-- TICK_LIMIT, 16 bits (R24). -/
  tickLimit : TickCount
  /-- PRESC_SEL, 8 bits (R25). -/
  prescSel : Selector
  /-- GATE (R19). -/
  gate : Bool
  /-- CONFIGURED (R20). -/
  configured : Bool
  /-- FAULT, sticky (R21). -/
  fault : Bool
  /-- PHASE, 2 bits (R17). -/
  phase : Phase
  /-- DLY (R18): DLY_W is "enough to hold BAD_SHIFT_DELAY" (R6), so a natural number (log entry 4). -/
  dly : Nat
  /-- PWM_HELD, the value the external PWM Sink holds (R27, R45): none before the first PWM write (R30). -/
  pwmHeld : Option Duty
  /-- The output trace, oldest event first (R9). -/
  trace : List Event
  /-- MODEL'S OWN: what the environment presents, the stimulus of the present step first (R51; log entry 2). -/
  inputs : List Stimulus
  /-- MODEL'S OWN: how many stimuli have been drawn from Config.environment (log entry 2). -/
  envCount : Nat
  deriving DecidableEq, Repr

/-- The reasons a step may stop the machine: there are none. The four exceptions of the block are taken inside the step
that detects them and the machine goes on (R140 to R143); "Nothing else faults" (R145). -/
inductive Fault where
  deriving DecidableEq, Repr

/-- The reasons a step may be refused. -/
inductive Refusal where
  /-- An operation without a meaning, by its mnemonic; raised by an arm of exec only, and no arm raises it. Safe: the
  machine stops where the hardware goes on. -/
  | notModelled (mnemonic : String)
  deriving DecidableEq, Repr

/-- The state after power-on with the gate at the given GATE_RESET (R6, R29, R30, R170). -/
def State.resetWith (gateReset : Bool) : State where
  mode := .eco
  speed := 1#3
  duty := 20#7
  target := 0#7
  pend := 1#3
  tickCnt := 0#16
  tickLimit := 0#16
  prescSel := 0#8
  gate := gateReset
  configured := false
  fault := false
  phase := .idle
  dly := 0
  pwmHeld := none
  trace := []
  inputs := []
  envCount := 0

/-- The state after power-on: GATE_RESET = 1 (R10, R19; D11, log entry 5). -/
def State.reset : State := State.resetWith true

end Sys2Proof.Machine
end

