-- ==== Sys2Proof/Machine/Operands.lean ====
section
/-! DEFINITION. The operand forms (30_encoding R62; 20_memory R44), the speed-to-duty table (R105) and the numeric codes
of modes, phases and events (R11, R17, R70, R71). -/

namespace Sys2Proof.Machine

/-- The digit of SET_SPEED: the whole key code, zero-extended (R62). -/
def digit (c : KeyCode) : Nat := c.toNat

/-- The level register's form of a digit, for the digits 1 to 5 (R12, R15). -/
def levelOf (c : KeyCode) : Level := BitVec.ofNat 3 (digit c)

/-- DUTY_TABLE, undefined outside 1 to 5 (R105). -/
def dutyTable : Nat → Option Duty
  | 1 => some 20#7
  | 2 => some 25#7
  | 3 => some 30#7
  | 4 => some 40#7
  | 5 => some 50#7
  | _ => none

/-- BASE_LEVEL (R5). -/
def baseLevel : Level := 1#3

/-- BASE_DUTY = DUTY_TABLE[1] (R5). -/
def baseDuty : Duty := 20#7

/-- abs(n - SPEED), on integers (R7, R131). -/
def levelDistance (n : Nat) (speed : Level) : Nat := ((n : Int) - (speed.toNat : Int)).natAbs

/-- KeyPoll(): what the key ports present in this step, the one read of the block (R44). -/
def State.keyPoll (s : State) : Option KeyCode :=
  match s.inputs with
  | .sequencer key :: _ => key
  | .reset :: _ => none
  | .configure _ :: _ => none
  | .tick :: _ => none
  | [] => none

/-- The bit of MODE (R11). -/
def DriveMode.bit : DriveMode → BitVec 1
  | .eco => 0#1
  | .sport => 1#1

/-- The two bits of PHASE (R17). -/
def Phase.bits : Phase → BitVec 2
  | .idle => 0#2
  | .ramp => 1#2
  | .stopRamp => 2#2
  | .penalty => 3#2

/-- The PHASE that two bits stand for; all four values are assigned (R68). -/
def Phase.ofBits (b : BitVec 2) : Phase :=
  if b = 0#2 then .idle
  else if b = 1#2 then .ramp
  else if b = 2#2 then .stopRamp
  else .penalty

/-- disp_code_o (R70); 0 stands for no event, 6 and 7 are never emitted. -/
def DispCode.bits : DispCode → BitVec 3
  | .modeEco => 1#3
  | .modeSport => 2#3
  | .stopped => 3#3
  | .clearProc => 4#3
  | .badShift => 5#3

/-- The text of a display event, where the source fixes one (R70). -/
def DispCode.text : DispCode → Option String
  | .modeEco => none
  | .modeSport => none
  | .stopped => none
  | .clearProc => none
  | .badShift => some "Bad Shift"

/-- log_code_o (R71); 0 stands for no event, 3 is never emitted. -/
def LogCode.bits : LogCode → BitVec 2
  | .invalidDigit => 1#2
  | .unrecognized => 2#2

end Sys2Proof.Machine
end

