-- ==== Sys2Proof/Machine/Ops.lean ====
section
/-! DEFINITION. The operations the meanings share: the sinks' writes (20_memory R45 to R48), the gate (41_input_gate R91,
R94), taking one of the four exceptions and the one return there is (60_exceptions R140 to R143, R152), the unit step of
the ramps (43_duty_ramp R120, R122), and reset (70_reset R170, R171). -/

namespace Sys2Proof.Machine

/-- Append one event to the output trace (R9). -/
def State.emit (e : Event) (s : State) : State := { s with trace := s.trace ++ [e] }

/-- PwmWrite(v): the event, and the sink holds v from now on (R8, R45). -/
def State.pwmWrite (v : Duty) (s : State) : State := { s.emit (.pwm v) with pwmHeld := some v }

/-- A write of DUTY with the PwmWrite of the same value that goes with it (R13). -/
def State.driveDuty (v : Duty) (s : State) : State := { s.pwmWrite v with duty := v }

/-- DispWrite(code) (R8, R46). -/
def State.dispWrite (code : DispCode) (s : State) : State := s.emit (.disp code)

/-- LogWrite(code, arg) (R8, R47). -/
def State.logWrite (code : LogCode) (arg : KeyCode) (s : State) : State := s.emit (.log code arg)

/-- TickAck() (R8, R48). -/
def State.tickAck (s : State) : State := s.emit .ack

/-- enable(), the maintenance callback (R94). -/
def State.enableGate (s : State) : State := { s with gate := true, tickCnt := 0#16 }

/-- Maint(): the event, and the maintenance callback (R8, R94). -/
def State.maintenance (s : State) : State := (s.emit .maint).enableGate

/-- disable(): it writes GATE and nothing else (R91). -/
def State.disableGate (s : State) : State := { s with gate := false }

/-- The exceptions of the block (R144). -/
inductive Exn where
  | badShift
  | invalidDigit (n : KeyCode)
  | unrecognizedCommand (c : KeyCode)
  | fatalMisconfiguration
  deriving DecidableEq, Repr

/-- Taking an exception: its entry actions, inside the step that detects it; nothing is saved and there is no handler
address (R140 to R143, R151). -/
def State.raise (x : Exn) (s : State) : State :=
  match x with
  | .badShift => { s.dispWrite .badShift with dly := Config.badShiftDelay, phase := .penalty }
  | .invalidDigit n => s.logWrite .invalidDigit n
  | .unrecognizedCommand c => s.logWrite .unrecognized c
  | .fatalMisconfiguration => { s with fault := true }

/-- The return from a BadShift, the one exception that has a return (R124, R152). -/
def State.returnToIdle (s : State) : State := { s with phase := .idle }

/-- DUTY + 1 if DUTY < TARGET, else DUTY - 1: the direction is chosen at every step (R120). -/
def towards (duty target : Duty) : Duty := if duty < target then duty + 1#7 else duty - 1#7

/-- A moving step of a ramp to d: write DUTY and the PWM Sink, and hold for the settle delay (R120, R122). -/
def State.rampTo (d : Duty) (s : State) : State := { s.driveDuty d with dly := Config.rampStepDelay }

/-- An accepted SET_SPEED with level n and target t: the Sport snap in one write, or the Eco ramp's operands latched
for the steps to come (R104). -/
def State.acceptSpeed (n : Level) (t : Duty) (s : State) : State :=
  match s.mode with
  | .sport => { (s.dispWrite .clearProc).driveDuty t with speed := n }
  | .eco => { s.dispWrite .clearProc with target := t, pend := n, phase := .ramp }

/-- SET_SPEED n: continuity first, the table second (R104). -/
def State.requestSpeed (n : KeyCode) (s : State) : State :=
  if 1 < levelDistance (digit n) s.speed then s.raise .badShift
  else
    match dutyTable (digit n) with
    | none => s.raise (.invalidDigit n)
    | some t => s.acceptSpeed (levelOf n) t

/-- The reset step: every register at its reset value and an empty trace (R29, R170); the PWM Sink, which is outside the
block, keeps what it holds (R171), and the environment goes on. -/
def State.resetStep (s : State) : State :=
  { State.reset with pwmHeld := s.pwmHeld, inputs := s.inputs, envCount := s.envCount }

end Sys2Proof.Machine
end

