-- ==== Sys2Proof/Machine/DutyRamp.lean ====
section
/-! DEFINITION. The Duty Ramp Controller: RAMP_STEP, STOP_STEP, PENALTY_EXIT, DLY_HOLD (43_duty_ramp). The condition on
CONFIGURED, FAULT, DLY and PHASE is the sequencer's selection (30_encoding R68; Machine/Fetch.lean). -/

namespace Sys2Proof.Machine

/-- RAMP_STEP: the moving branch (R120), or the completion, which commits SPEED (R121). -/
def execRampStep (s : State) : Host.Outcome State Fault Refusal :=
  if s.duty ≠ s.target then .next (s.rampTo (towards s.duty s.target))
  else .next { s with speed := s.pend, duty := s.target, phase := .idle }

/-- STOP_STEP: the moving branch (R122), or the completion: the forced 0, the display event, the baseline level
(R123). MODE is not read. -/
def execStopStep (s : State) : Host.Outcome State Fault Refusal :=
  if s.duty ≠ 0#7 then .next (s.rampTo (s.duty - 1#7))
  else .next { (s.driveDuty 0#7).dispWrite .stopped with speed := baseLevel, phase := .idle }

/-- PENALTY_EXIT (R124). -/
def execPenaltyExit (s : State) : Host.Outcome State Fault Refusal := .next s.returnToIdle

/-- DLY_HOLD, in any PHASE (R125). -/
def execDlyHold (_p : BitVec 2) (s : State) : Host.Outcome State Fault Refusal :=
  .next { s with dly := s.dly - 1 }

end Sys2Proof.Machine
end

