-- ==== Sys2Proof/WellFormed.lean ====
section
/-! DEFINITION. Which operands each row of the opcode table admits. Only the rows whose operand is the whole key code
restrict it (R61, R62, R63); every configure word is an encoding (R66, R67), and so is every PHASE value (R68). -/

namespace Sys2Proof

def Instr.wf : Instr → Bool
  | .configure _ _ => true
  | .tick => true
  | .nokey => true
  | .setSpeed n => n &&& 0x8#4 == 0x0#4
  | .setSpeedHigh n => n &&& 0xE#4 == 0x8#4
  | .selectEco => true
  | .selectSport => true
  | .stop => true
  | .start => true
  | .unrecognized c => c &&& 0xE#4 == 0xE#4
  | .rampStep => true
  | .stopStep => true
  | .penaltyExit => true
  | .dlyHold _ => true
  | .keypoll => true

end Sys2Proof
end

