-- ==== Sys2Proof/Decode.lean ====
section
/-! DEFINITION. The decoder (30_encoding R60 to R69), the encoder, and the opcode table as rows of match and mask
(R72). -/

namespace Sys2Proof

/-- The key code map (R61): format K-D is c[3] = 0 or c[3:1] = 0b100, format K-C the rest. -/
def decodeCommand (c : KeyCode) : Command :=
  if c &&& 0x8#4 = 0x0#4 then .setSpeed c
  else if c &&& 0xE#4 = 0x8#4 then .setSpeedHigh c
  else if c = 0xA#4 then .selectEco
  else if c = 0xB#4 then .selectSport
  else if c = 0xC#4 then .stop
  else if c = 0xD#4 then .start
  else .unrecognized c

/-- The interval selector of a configure word, bits 23 to 16 (R66). -/
def configSelector (w : ConfigWord) : Selector := w.extractLsb' 16 8

/-- The tick limit of a configure word, bits 15 to 0 (R66). -/
def configLimit (w : ConfigWord) : TickCount := w.extractLsb' 0 16

/-- The sequencer's operation from PHASE, and from whether DLY is not 0, which comes first (R68 lines 2 to 6). -/
def decodeSequencer (phase : BitVec 2) (hold : Bool) : Instr :=
  if hold then .dlyHold phase
  else if phase = 0#2 then .keypoll
  else if phase = 1#2 then .rampStep
  else if phase = 2#2 then .stopStep
  else .penaltyExit

/-- The decoder: total, and it rejects by name the one word that selects nothing (R69). -/
def decode : PortWord → Except DecodeError Instr
  | .cfg w => .ok (.configure (configSelector w) (configLimit w))
  | .evt b => if b = 1#1 then .ok .tick else .error .noFiring
  | .noKey => .ok .nokey
  | .key c => .ok (decodeCommand c).instr
  | .seq phase hold => .ok (decodeSequencer phase hold)

/-- The encoder, from the same tables: {interval_selector, tick_limit} (R66), tick_i = 1 (R69), the key codes (R61),
and the PHASE and DLY condition that select a sequencer operation (R68). -/
def encode : Instr → PortWord
  | .configure sel lim => .cfg (sel ++ lim)
  | .tick => .evt 1#1
  | .nokey => .noKey
  | .setSpeed n => .key n
  | .setSpeedHigh n => .key n
  | .selectEco => .key 0xA#4
  | .selectSport => .key 0xB#4
  | .stop => .key 0xC#4
  | .start => .key 0xD#4
  | .unrecognized c => .key c
  | .keypoll => .seq 0#2 false
  | .rampStep => .seq 1#2 false
  | .stopStep => .seq 2#2 false
  | .penaltyExit => .seq 3#2 false
  | .dlyHold p => .seq p true

/-- One row of the opcode table: format, width, and the match and mask its code bits are held against (R72). -/
structure TableRow where
  mnemonic : String
  format : Format
  width : Nat
  matchBits : Nat
  mask : Nat
  deriving DecidableEq, Repr

/-- The rows of the formats K-D and K-C, for the 4-bit key code. -/
def keyRows : List TableRow :=
  [⟨"SET_SPEED", .kD, 4, 0x0, 0x8⟩, ⟨"SET_SPEED", .kD, 4, 0x8, 0xE⟩, ⟨"SELECT_ECO", .kC, 4, 0xA, 0xF⟩,
   ⟨"SELECT_SPORT", .kC, 4, 0xB, 0xF⟩, ⟨"STOP", .kC, 4, 0xC, 0xF⟩, ⟨"START", .kC, 4, 0xD, 0xF⟩,
   ⟨"UNRECOGNIZED", .kC, 4, 0xE, 0xE⟩]

/-- The rows of the format SEQ selected by PHASE alone (R68 lines 3 to 6). -/
def phaseRows : List TableRow :=
  [⟨"KEYPOLL", .seq, 2, 0x0, 0x3⟩, ⟨"RAMP_STEP", .seq, 2, 0x1, 0x3⟩, ⟨"STOP_STEP", .seq, 2, 0x2, 0x3⟩,
   ⟨"PENALTY_EXIT", .seq, 2, 0x3, 0x3⟩]

/-- DLY_HOLD, for any PHASE: selected by DLY, before the PHASE rows (R68 line 2). -/
def holdRow : TableRow := ⟨"DLY_HOLD", .seq, 2, 0x0, 0x0⟩

def configureRow : TableRow := ⟨"CONFIGURE", .cfg, 24, 0x000000, 0x000000⟩

def tickRow : TableRow := ⟨"TICK", .evt, 1, 0x1, 0x1⟩

def noKeyRow : TableRow := ⟨"NOKEY", .kNone, 0, 0x0, 0x0⟩

/-- The row is selected when (code AND mask) = match (R72). -/
def TableRow.selects (r : TableRow) (code : Nat) : Bool := code &&& r.mask == r.matchBits

/-- The rows that can apply to a word: its format's, under the priority of R68. -/
def rowsFor : PortWord → List TableRow
  | .cfg _ => [configureRow]
  | .evt _ => [tickRow]
  | .noKey => [noKeyRow]
  | .key _ => keyRows
  | .seq _ hold => if hold then [holdRow] else phaseRows

/-- The code bits of a word. -/
def PortWord.code : PortWord → Nat
  | .cfg w => w.toNat
  | .evt b => b.toNat
  | .noKey => 0
  | .key c => c.toNat
  | .seq phase _ => phase.toNat

/-- The row of the table an operation is an instance of. -/
def Instr.row : Instr → TableRow
  | .configure _ _ => configureRow
  | .tick => tickRow
  | .nokey => noKeyRow
  | .setSpeed _ => ⟨"SET_SPEED", .kD, 4, 0x0, 0x8⟩
  | .setSpeedHigh _ => ⟨"SET_SPEED", .kD, 4, 0x8, 0xE⟩
  | .selectEco => ⟨"SELECT_ECO", .kC, 4, 0xA, 0xF⟩
  | .selectSport => ⟨"SELECT_SPORT", .kC, 4, 0xB, 0xF⟩
  | .stop => ⟨"STOP", .kC, 4, 0xC, 0xF⟩
  | .start => ⟨"START", .kC, 4, 0xD, 0xF⟩
  | .unrecognized _ => ⟨"UNRECOGNIZED", .kC, 4, 0xE, 0xE⟩
  | .keypoll => ⟨"KEYPOLL", .seq, 2, 0x0, 0x3⟩
  | .rampStep => ⟨"RAMP_STEP", .seq, 2, 0x1, 0x3⟩
  | .stopStep => ⟨"STOP_STEP", .seq, 2, 0x2, 0x3⟩
  | .penaltyExit => ⟨"PENALTY_EXIT", .seq, 2, 0x3, 0x3⟩
  | .dlyHold _ => holdRow

/-- The word `w` of `nbits` bits on the port that takes words of that width. The block lays no word out in memory, so
a row's width is all that tells its port (log entry 7): 24 bits the configure word, 1 the tick, 0 no key, 4 a key code,
2 the sequencer's PHASE with DLY = 0. A whole byte is read as a key code. -/
def portWordOf (nbits w : Nat) : Except DecodeError PortWord :=
  if nbits = 24 then
    if w < 2 ^ 24 then .ok (.cfg (BitVec.ofNat 24 w)) else .error (.bitsBeyondWidth w)
  else if nbits = 1 then
    if w < 2 then .ok (.evt (BitVec.ofNat 1 w)) else .error (.bitsBeyondWidth w)
  else if nbits = 0 then
    if w = 0 then .ok .noKey else .error (.bitsBeyondWidth w)
  else if nbits = 4 ∨ nbits = 8 then
    if w < 16 then .ok (.key (BitVec.ofNat 4 w)) else .error (.bitsBeyondWidth w)
  else if nbits = 2 then
    if w < 4 then .ok (.seq (BitVec.ofNat 2 w) false) else .error (.bitsBeyondWidth w)
  else .error (.noSuchWidth nbits)

/-- Decoding a bare table word. -/
def decodeRaw (nbits w : Nat) : Except DecodeError Instr :=
  match portWordOf nbits w with
  | .ok pw => decode pw
  | .error e => .error e

/-- The operation the decoder reads from a bare table word, none where it rejects. -/
def decodeTableWord (nbits w : Nat) : Option Instr :=
  match decodeRaw nbits w with
  | .ok i => some i
  | .error _ => none

end Sys2Proof
end

