-- ==== Sys2Proof/Machine/DriveCommands.lean ====
section
/-! DEFINITION. The Drive State Machine: the commands a pressed key selects (42_drive_commands). Each is the handler
alone; clearing GATE belongs to KEYPOLL (R91). -/

namespace Sys2Proof.Machine

/-- SELECT_ECO (R100). -/
def execSelectEco (s : State) : Host.Outcome State Fault Refusal :=
  .next ({ s with mode := .eco }.dispWrite .modeEco)

/-- SELECT_SPORT (R101). -/
def execSelectSport (s : State) : Host.Outcome State Fault Refusal :=
  .next ({ s with mode := .sport }.dispWrite .modeSport)

/-- STOP, the dispatch step (R102). -/
def execStop (s : State) : Host.Outcome State Fault Refusal :=
  .next { s with target := 0#7, phase := .stopRamp }

/-- START: the level-1 baseline in one write, in either mode (R103). -/
def execStart (s : State) : Host.Outcome State Fault Refusal :=
  .next { s.driveDuty baseDuty with speed := baseLevel }

/-- SET_SPEED n, the codes 0x0 to 0x7 (R104). -/
def execSetSpeed (n : KeyCode) (s : State) : Host.Outcome State Fault Refusal :=
  .next (s.requestSpeed n)

/-- SET_SPEED n, the codes 0x8 and 0x9 (R104). -/
def execSetSpeedHigh (n : KeyCode) (s : State) : Host.Outcome State Fault Refusal :=
  .next (s.requestSpeed n)

/-- UNRECOGNIZED (R108). -/
def execUnrecognized (c : KeyCode) (s : State) : Host.Outcome State Fault Refusal :=
  .next (s.raise (.unrecognizedCommand c))

end Sys2Proof.Machine
end

