-- ==== Sys2Proof/Machine/Flags.lean ====
section
/-! DEFINITION. The derived flags: functions of the registers that hold no state of their own (10_state R22; 20_memory
R42). -/

namespace Sys2Proof.Machine

/-- CONFIGURED and not FAULT: the block runs, and the external timer is armed, timer_en_o (R20, R21, R42). -/
def State.running (s : State) : Bool := s.configured && !s.fault

/-- BUSY = (PHASE ≠ IDLE) or (DLY ≠ 0) (R22). -/
def State.busy (s : State) : Bool := s.phase != .idle || s.dly != 0

/-- STOPPED = (DUTY = 0) (R22). -/
def State.stopped (s : State) : Bool := s.duty == 0#7

/-- ACCEPTING: the condition under which a pressed key is taken (R22). -/
def State.accepting (s : State) : Bool :=
  s.configured && !s.fault && s.phase == .idle && s.dly == 0 && s.gate

end Sys2Proof.Machine
end

