-- ==== Sys2Proof/Machine/InputGate.lean ====
section
/-! DEFINITION. The Input Gate: KEYPOLL, NOKEY and the dispatch of the command a key selects (41_input_gate). -/

namespace Sys2Proof.Machine

/-- NOKEY: a poll that returns no key changes nothing (R92). -/
def execNokey (s : State) : Host.Outcome State Fault Refusal := .next s

/-- handle_command: the selected command's rule (R93). -/
def handleCommand (cmd : Command) (s : State) : Host.Outcome State Fault Refusal :=
  match cmd with
  | .setSpeed n => execSetSpeed n s
  | .setSpeedHigh n => execSetSpeedHigh n s
  | .selectEco => execSelectEco s
  | .selectSport => execSelectSport s
  | .stop => execStop s
  | .start => execStart s
  | .unrecognized c => execUnrecognized c s

/-- KEYPOLL: poll only while the gate is open; a key closes the gate and is dispatched in the same step (R90, R91). -/
def execKeypoll (s : State) : Host.Outcome State Fault Refusal :=
  if !s.running then .next s
  else if !s.gate then .next s
  else
    match s.keyPoll with
    | none => execNokey s
    | some c => handleCommand (decodeCommand c) s.disableGate

end Sys2Proof.Machine
end

