-- ==== Sys2Proof/Machine/TickSource.lean ====
section
/-! DEFINITION. The Tick Source: CONFIGURE and TICK (40_tick_source). -/

namespace Sys2Proof.Machine

/-- CONFIGURE: accepted (R80), fatal with tick_limit = 0 (R81), ignored once configured or faulted (R84). -/
def execConfigure (sel : Selector) (lim : TickCount) (s : State) : Host.Outcome State Fault Refusal :=
  if s.configured || s.fault then .next s
  else if lim = 0#16 then .next (s.raise .fatalMisconfiguration)
  else .next { s with prescSel := sel, tickLimit := lim, configured := true }

/-- The tick step's count and compare, after the acknowledge: the intermediate c has 17 bits (R82). -/
def State.countTick (s : State) : State :=
  let c := s.tickCnt.toNat + 1
  if c = s.tickLimit.toNat then { s.maintenance with tickCnt := 0#16 }
  else { s with tickCnt := BitVec.ofNat 16 c }

/-- TICK: the acknowledge first, then the count (R82); ignored while not configured or faulted (R83). -/
def execTick (s : State) : Host.Outcome State Fault Refusal :=
  if s.running then .next s.tickAck.countTick else .next s

end Sys2Proof.Machine
end

