-- ==== Sys2Proof/Machine/Dispatch.lean ====
section
/-! DEFINITION. One arm per operation, each a direct call of its meaning. -/

namespace Sys2Proof.Machine

def exec (i : Instr) (s : State) : Host.Outcome State Fault Refusal :=
  match i with
  | .configure sel lim => Sys2Proof.Machine.execConfigure sel lim s
  | .tick => Sys2Proof.Machine.execTick s
  | .nokey => Sys2Proof.Machine.execNokey s
  | .setSpeed n => Sys2Proof.Machine.execSetSpeed n s
  | .setSpeedHigh n => Sys2Proof.Machine.execSetSpeedHigh n s
  | .selectEco => Sys2Proof.Machine.execSelectEco s
  | .selectSport => Sys2Proof.Machine.execSelectSport s
  | .stop => Sys2Proof.Machine.execStop s
  | .start => Sys2Proof.Machine.execStart s
  | .unrecognized c => Sys2Proof.Machine.execUnrecognized c s
  | .rampStep => Sys2Proof.Machine.execRampStep s
  | .stopStep => Sys2Proof.Machine.execStopStep s
  | .penaltyExit => Sys2Proof.Machine.execPenaltyExit s
  | .dlyHold p => Sys2Proof.Machine.execDlyHold p s
  | .keypoll => Sys2Proof.Machine.execKeypoll s

end Sys2Proof.Machine
end

