-- ==== Sys2Proof/Machine/Fetch.lean ====
section
/-! DEFINITION. What a step runs: the stimulus presented, the word it selects (30_encoding R60, R66, R68, R69), and how
a bare table word is placed so that the next step runs it. -/

namespace Sys2Proof.Machine

/-- The state with a stimulus at the head of its inputs: the listed one, or, where none is listed, the environment's
next free value (R51; U1, U2). -/
def State.present (s : State) : State :=
  match s.inputs with
  | [] => { s with inputs := [Config.environment s.envCount], envCount := s.envCount + 1 }
  | _ :: _ => s

/-- The stimulus at the head is taken: the step is over. -/
def State.retire (s : State) : State := { s with inputs := s.inputs.tail }

/-- The word the stimulus at the head selects: the configure word, the tick bit, or, for a sequencer step, the block's
own PHASE and DLY while it runs (R68 line 1: nothing otherwise). -/
def State.selectWord (s : State) : Option PortWord :=
  match s.inputs with
  | .configure w :: _ => some (.cfg w)
  | .tick :: _ => some (.evt 1#1)
  | .sequencer _ :: _ => if s.running then some (.seq s.phase.bits (s.dly != 0)) else none
  | .reset :: _ => none
  | [] => none

/-- What a step does. -/
inductive Selection where
  /-- The reset step (R170). -/
  | reset
  /-- Nothing is selected: no change, no event (R68 line 1). -/
  | nothing
  /-- One operation of the table. -/
  | run (i : Instr)
  deriving DecidableEq, Repr

/-- The decoder applied to the selected word; a word it rejects selects nothing (R69). -/
def State.select (s : State) : Selection :=
  match s.inputs with
  | .reset :: _ => .reset
  | _ =>
    match s.selectWord with
    | none => .nothing
    | some w =>
      match decode w with
      | .ok i => .run i
      | .error _ => .nothing

/-- The outcome of an operation with its next state changed. -/
def mapNext (f : State → State) : Host.Outcome State Fault Refusal → Host.Outcome State Fault Refusal
  | .next s => .next (f s)
  | .fault r => .fault r
  | .refused r => .refused r

/-- The stimulus x arrives now, before every listed one. -/
def State.feed (x : Stimulus) (s : State) : State := { s with inputs := x :: s.inputs }

/-- The word placed so that the next step selects it (log entry 8): a configure word or a tick is presented; a key, or
no key, is presented to a running sequencer that is idle with an open gate; a PHASE and a hold are put in their
registers. A tick bit of 0 is no step (R69). -/
def State.placeWord (s : State) : PortWord → State
  | .cfg w => s.feed (.configure w)
  | .evt b => if b = 1#1 then s.feed .tick else s
  | .noKey =>
    { s with configured := true, fault := false, phase := .idle, dly := 0, gate := true }.feed (.sequencer none)
  | .key c =>
    { s with configured := true, fault := false, phase := .idle, dly := 0, gate := true }.feed (.sequencer (some c))
  | .seq phase hold =>
    { s with configured := true, fault := false, phase := Phase.ofBits phase,
             dly := if hold then 1 else 0 }.feed (.sequencer none)

/-- A bare table word placed for the next step; where no port takes it, the state as it is. -/
def State.placeRaw (s : State) (nbits w : Nat) : State :=
  match portWordOf nbits w with
  | .ok pw => s.placeWord pw
  | .error _ => s

end Sys2Proof.Machine
end

