-- ==== Sys2Proof/Machine/Step.lean ====
section
/-! DEFINITION. One step of the machine: one atomic step of one agent (00_scope R9; 20_memory R51). -/

namespace Sys2Proof.Machine

def step (s : State) : Host.Outcome State Fault Refusal :=
  match s.present.select with
  | .reset => .next s.present.resetStep.retire
  | .nothing => .next s.present.retire
  | .run i => mapNext State.retire (exec i s.present)

/-- The table word w placed so that the next step runs it (log entry 8). -/
def State.withFetchWord (s : State) (nbits w : Nat) : State := s.placeRaw nbits w

end Sys2Proof.Machine
end

