-- ==== Sys2Proof/Machine/TraceSyntax.lean ====
section
/-! DEFINITION. Runs of several steps and the trace syntax (30_encoding R73, R74): a line RESET, CFG, TICK or STEP is a
Stimulus; TICKS, RUN and PRESS expand to them. -/

namespace Sys2Proof.Machine

/-- The steps of a run in which these stimuli arrive, one a step, in this order (R51). -/
def runStimuli : List Stimulus → State → Host.Outcome State Fault Refusal
  | [], s => .next s
  | x :: xs, s =>
    match step (s.feed x) with
    | .next t => runStimuli xs t
    | .fault r => .fault r
    | .refused r => .refused r

/-- TICKS m (R74). -/
def tickLines (m : Nat) : List Stimulus := List.replicate m .tick

/-- The distance of two duties: abs(TARGET - DUTY) (R127). -/
def dutyDistance (a b : Duty) : Nat := ((a.toNat : Int) - (b.toNat : Int)).natAbs

/-- How many sequencer steps bring the sequencer to IDLE with DLY = 0 (R130). -/
def State.stepsToIdle (s : State) : Nat :=
  s.dly +
    match s.phase with
    | .idle => 0
    | .ramp => dutyDistance s.target s.duty * (1 + Config.rampStepDelay) + 1
    | .stopRamp => s.duty.toNat * (1 + Config.rampStepDelay) + 1
    | .penalty => 1

/-- STEP with no key repeated until BUSY = 0, within so many steps. -/
def runUntilIdle : Nat → State → Host.Outcome State Fault Refusal
  | 0, s => .next s
  | k + 1, s =>
    if s.busy then
      match step (s.feed (.sequencer none)) with
      | .next t => runUntilIdle k t
      | .fault r => .fault r
      | .refused r => .refused r
    else .next s

/-- RUN: STEP until BUSY = 0, which the step count of R130 bounds (R74). -/
def runLine (s : State) : Host.Outcome State Fault Refusal := runUntilIdle s.stepsToIdle s

/-- PRESS k: STEP k and then RUN (R74). -/
def pressLine (k : KeyCode) (s : State) : Host.Outcome State Fault Refusal :=
  match step (s.feed (.sequencer (some k))) with
  | .next t => runLine t
  | .fault r => .fault r
  | .refused r => .refused r

/-- The values a unit-step ramp from a to b writes: those after a, up or down to b (R126). -/
def rampValues (a b : Nat) : List Nat :=
  if a ≤ b then (List.range (b - a)).map (fun k => a + 1 + k)
  else (List.range (a - b)).map (fun k => a - 1 - k)

/-- The same as events of the output trace (R126). -/
def rampEvents (a b : Duty) : List Event :=
  (rampValues a.toNat b.toNat).map (fun v => .pwm (BitVec.ofNat 7 v))

end Sys2Proof.Machine
end

