-- ==== Sys2Proof/Machine/Ports.lean ====
section
/-! DEFINITION. The ports and the clocked form (20_memory R41, R42, R52): one clock cycle is the reset step, or a
configure step, a tick step and one sequencer step in that order, as far as the input ports ask for them. -/

namespace Sys2Proof.Machine

/-- The input ports of one cycle (R42). -/
structure PortsIn where
  rst : Bool
  cfgValid : Bool
  cfgWord : ConfigWord
  tick : Bool
  keyValid : Bool
  keyCode : KeyCode
  deriving DecidableEq, Repr

/-- The event ports of one cycle: a strobe and, with it, a value that is 0 otherwise (R42, R57). -/
structure EventPorts where
  tickAck : Bool
  maint : Bool
  pwmWe : Bool
  pwmDuty : Duty
  dispValid : Bool
  dispCode : BitVec 3
  logValid : Bool
  logCode : BitVec 2
  logArg : KeyCode
  deriving DecidableEq, Repr

/-- The status ports: the registers and the derived flags, continuously (R16, R42). -/
structure StatusPorts where
  timerEn : Bool
  prescSel : Selector
  mode : BitVec 1
  speed : Level
  duty : Duty
  target : Duty
  pend : Level
  tickCnt : TickCount
  tickLimit : TickCount
  gate : Bool
  configured : Bool
  fault : Bool
  phase : BitVec 2
  dly : Nat
  busy : Bool
  stopped : Bool
  accepting : Bool
  deriving DecidableEq, Repr

/-- key_code_i counts only while key_valid_i = 1 (R44, R57). -/
def PortsIn.key (p : PortsIn) : Option KeyCode := if p.keyValid then some p.keyCode else none

/-- The atomic steps of one cycle, in their order (R52); in a cycle with rst = 1 the reset step and nothing else (R41). -/
def PortsIn.stimuli (p : PortsIn) : List Stimulus :=
  if p.rst then [.reset]
  else
    (if p.cfgValid then [.configure p.cfgWord] else []) ++ (if p.tick then [.tick] else []) ++ [.sequencer p.key]

/-- One clock cycle (R52). -/
def cycle (p : PortsIn) (s : State) : Host.Outcome State Fault Refusal := runStimuli p.stimuli s

/-- The status ports of a state. -/
def State.statusPorts (s : State) : StatusPorts where
  timerEn := s.running
  prescSel := s.prescSel
  mode := s.mode.bit
  speed := s.speed
  duty := s.duty
  target := s.target
  pend := s.pend
  tickCnt := s.tickCnt
  tickLimit := s.tickLimit
  gate := s.gate
  configured := s.configured
  fault := s.fault
  phase := s.phase.bits
  dly := s.dly
  busy := s.busy
  stopped := s.stopped
  accepting := s.accepting

/-- The event ports with no event (R57). -/
def EventPorts.quiet : EventPorts where
  tickAck := false
  maint := false
  pwmWe := false
  pwmDuty := 0#7
  dispValid := false
  dispCode := 0#3
  logValid := false
  logCode := 0#2
  logArg := 0#4

/-- One event on its port. -/
def EventPorts.show (p : EventPorts) : Event → EventPorts
  | .pwm v => { p with pwmWe := true, pwmDuty := v }
  | .disp code => { p with dispValid := true, dispCode := code.bits }
  | .log code arg => { p with logValid := true, logCode := code.bits, logArg := arg }
  | .ack => { p with tickAck := true }
  | .maint => { p with maint := true }

/-- The event ports in a cycle that emitted these events. -/
def eventPorts (events : List Event) : EventPorts := events.foldl EventPorts.show EventPorts.quiet

/-- The events a cycle emitted, from the traces before and after it; a reset cycle emits none and empties the trace. -/
def emittedSince (before after : State) : List Event := after.trace.drop before.trace.length

end Sys2Proof.Machine
end

