-- ==== Sys2Proof/Safety.lean ====
section
/-! DEFINITION. What counts as a good state: not faulted (10_state R21), and the invariants of the reachable states
(R28). -/

namespace Sys2Proof.Machine

/-- A state with FAULT = 1 is faulted and is never the final state of a good run (R21; U5). -/
def State.good (s : State) : Bool := !s.fault

/-- The duty of a settled level: the table's value, or 0 at level 1, the stopped state (R28 d). -/
def settledDuty (speed : Level) (duty : Duty) : Prop :=
  dutyTable speed.toNat = some duty ∨ (duty = 0#7 ∧ speed = baseLevel)

/-- DUTY lies between a and TARGET, inclusive (R28 e). -/
def between (a duty target : Duty) : Prop := (a ≤ duty ∧ duty ≤ target) ∨ (target ≤ duty ∧ duty ≤ a)

/-- The invariants of the reachable states (R28), and three the spec states elsewhere: the legal values of TARGET and DLY
(R10), and that the sequencer leaves IDLE only once configured (R20). -/
structure State.Inv (s : State) : Prop where
  /-- (a) -/
  speedLegal : 1 ≤ s.speed.toNat ∧ s.speed.toNat ≤ 5
  /-- (a) -/
  pendLegal : 1 ≤ s.pend.toNat ∧ s.pend.toNat ≤ 5
  /-- (b) -/
  dutyBound : s.duty.toNat ≤ 50
  /-- (c) -/
  countBelowLimit : s.configured = true → 1 ≤ s.tickLimit.toNat ∧ s.tickCnt.toNat < s.tickLimit.toNat
  /-- (c) -/
  countUnconfigured : s.configured = false → s.tickCnt = 0#16 ∧ s.tickLimit = 0#16
  /-- (d) -/
  settled : s.phase = .idle ∨ s.phase = .penalty → settledDuty s.speed s.duty
  /-- (e); the ramp started at a settled duty of SPEED. -/
  ramping : s.phase = .ramp →
    dutyTable s.pend.toNat = some s.target ∧ levelDistance s.pend.toNat s.speed ≤ 1 ∧ s.mode = .eco ∧
      ∃ a, settledDuty s.speed a ∧ between a s.duty s.target
  /-- (f) -/
  stopping : s.phase = .stopRamp → s.target = 0#7
  /-- (g) -/
  holding : s.dly ≠ 0 → s.phase ≠ .idle
  /-- (h) -/
  faultUnconfigured : s.fault = true → s.configured = false
  /-- The legal values of TARGET (R10). -/
  targetLegal : s.target = 0#7 ∨ ∃ n, dutyTable n = some s.target
  /-- The legal values of DLY (R10). -/
  holdBound : s.dly ≤ Config.badShiftDelay
  /-- Until CONFIGURE, sequencer steps change nothing (R20). -/
  busyConfigured : s.phase ≠ .idle → s.configured = true

end Sys2Proof.Machine
end

