-- ==== Sys2Proof/Certificates/Slice0/Obligations.lean ====
section
/-! DEFINITION. The statements for the provers, from the numbered rules of spec/. -/

open Sys2Proof Sys2Proof.Machine

/-- The stimulus is a sequencer step. -/
def Sys2Proof.Claims.isSequencer : Stimulus → Bool
  | .sequencer _ => true
  | .reset => false
  | .configure _ => false
  | .tick => false

/-- The event is a PWM write. -/
def Sys2Proof.Claims.isPwm : Event → Bool
  | .pwm _ => true
  | .disp _ => false
  | .log _ _ => false
  | .ack => false
  | .maint => false

/-- The event is a display event. -/
def Sys2Proof.Claims.isDisp : Event → Bool
  | .disp _ => true
  | .pwm _ => false
  | .log _ _ => false
  | .ack => false
  | .maint => false

/-- The event is a diagnostic event. -/
def Sys2Proof.Claims.isLog : Event → Bool
  | .log _ _ => true
  | .pwm _ => false
  | .disp _ => false
  | .ack => false
  | .maint => false

/-- The thirteen registers at their reset values (R10, R29, R170). -/
def Sys2Proof.Claims.registersAtReset (t : State) : Prop :=
  t.mode = .eco ∧ t.speed = 1#3 ∧ t.duty = 20#7 ∧ t.target = 0#7 ∧ t.pend = 1#3 ∧ t.tickCnt = 0#16 ∧
    t.tickLimit = 0#16 ∧ t.prescSel = 0#8 ∧ t.gate = true ∧ t.configured = false ∧ t.fault = false ∧
    t.phase = .idle ∧ t.dly = 0

/-- disp_code_o of each display event, as the table of R70 numbers them. -/
def Sys2Proof.Claims.dispNumber : DispCode → BitVec 3
  | .modeEco => 1#3
  | .modeSport => 2#3
  | .stopped => 3#3
  | .clearProc => 4#3
  | .badShift => 5#3

/-- log_code_o of each diagnostic event, as the table of R71 numbers them. -/
def Sys2Proof.Claims.logNumber : LogCode → BitVec 2
  | .invalidDigit => 1#2
  | .unrecognized => 2#2

/-- The numeric codes of the three events SET_SPEED emits, and the one text the source fixes (R70, R71, R104, R140,
R141). -/
def Sys2Proof.Claims.setSpeedCodes : Prop :=
  DispCode.badShift.bits = 5#3 ∧ DispCode.badShift.text = some "Bad Shift" ∧ DispCode.clearProc.bits = 4#3 ∧
    LogCode.invalidDigit.bits = 1#2

/-- One entry of the outcome matrix of SET_SPEED (R106). -/
inductive Sys2Proof.Claims.Cell where
  | inv
  | bad
  | ok (t : Nat)

/-- The matrix of R106: a row for each SPEED 1 to 5, a column for each n 0 to 9. -/
def Sys2Proof.Claims.matrix : List (List Sys2Proof.Claims.Cell) :=
  [[.inv, .ok 20, .ok 25, .bad, .bad, .bad, .bad, .bad, .bad, .bad],
   [.bad, .ok 20, .ok 25, .ok 30, .bad, .bad, .bad, .bad, .bad, .bad],
   [.bad, .bad, .ok 25, .ok 30, .ok 40, .bad, .bad, .bad, .bad, .bad],
   [.bad, .bad, .bad, .ok 30, .ok 40, .ok 50, .bad, .bad, .bad, .bad],
   [.bad, .bad, .bad, .bad, .ok 40, .ok 50, .inv, .bad, .bad, .bad]]

/-- The matrix entry of a level and a digit. -/
def Sys2Proof.Claims.entry (speed n : Nat) : Option Sys2Proof.Claims.Cell :=
  match Sys2Proof.Claims.matrix[speed - 1]? with
  | some row => row[n]?
  | none => none

/-- What the next state t of the state s shows of an outcome: an invalid digit is one diagnostic event, a Bad Shift one
display event and the hold, an accepted request the target reached at once (Sport) or latched (Eco). -/
def Sys2Proof.Claims.shows (cell : Sys2Proof.Claims.Cell) (c : KeyCode) (s t : State) : Prop :=
  match cell with
  | .inv => t = { s with trace := s.trace ++ [.log .invalidDigit c] }
  | .bad =>
    t = { s with trace := s.trace ++ [.disp .badShift], dly := Config.badShiftDelay, phase := .penalty }
  | .ok d =>
    (s.mode = .sport → t =
      { s with
        trace := s.trace ++ [.disp .clearProc, .pwm (BitVec.ofNat 7 d)], duty := BitVec.ofNat 7 d,
        pwmHeld := some (BitVec.ofNat 7 d), speed := BitVec.ofNat 3 c.toNat }) ∧
    (s.mode = .eco → t =
      { s with
        trace := s.trace ++ [.disp .clearProc], target := BitVec.ofNat 7 d, pend := BitVec.ofNat 3 c.toNat,
        phase := .ramp })

/-- A sequencer step of a running block that is not a hold. -/
def Sys2Proof.Claims.stepsInPhase (x : Stimulus) (s : State) : Prop :=
  (∃ key, x = .sequencer key) ∧ s.configured = true ∧ s.fault = false ∧ s.dly = 0

/-- The transitions of PHASE other than staying: from, to, and the step and condition that make them (R132). -/
def Sys2Proof.Claims.phaseMoves (x : Stimulus) (s : State) (q : Phase) : Prop :=
  match s.phase, q with
  | .idle, .ramp => ∃ c : KeyCode, x = .sequencer (some c) ∧ s.accepting = true ∧ 1 ≤ c.toNat ∧ c.toNat ≤ 5 ∧
      ((c.toNat : Int) - s.speed.toNat).natAbs ≤ 1 ∧ s.mode = .eco
  | .idle, .penalty => ∃ c : KeyCode, x = .sequencer (some c) ∧ s.accepting = true ∧ c.toNat ≤ 9 ∧
      1 < ((c.toNat : Int) - s.speed.toNat).natAbs
  | .idle, .stopRamp => x = .sequencer (some 0xC#4) ∧ s.accepting = true
  | .ramp, .idle => Sys2Proof.Claims.stepsInPhase x s ∧ s.duty = s.target
  | .stopRamp, .idle => Sys2Proof.Claims.stepsInPhase x s ∧ s.duty = 0#7
  | .penalty, .idle => Sys2Proof.Claims.stepsInPhase x s
  | .idle, .idle => False
  | .ramp, .ramp => False
  | .ramp, .stopRamp => False
  | .ramp, .penalty => False
  | .stopRamp, .ramp => False
  | .stopRamp, .stopRamp => False
  | .stopRamp, .penalty => False
  | .penalty, .ramp => False
  | .penalty, .stopRamp => False
  | .penalty, .penalty => False

/-! ### Reset and the invariants -/

/-- R29: the reset values, an empty trace, and no tick or sequencer step does anything until CONFIGURE. -/
def Obligations.ResetLeavesTheRegisterTable : Prop :=
  Sys2Proof.Claims.registersAtReset State.reset ∧ State.reset.trace = [] ∧
    (∀ key, step (State.reset.feed (.sequencer key)) = .next State.reset) ∧
    step (State.reset.feed .tick) = .next State.reset

/-- R170: a cycle with rst = 1 is the reset step and nothing else, whatever the other ports carry. With it R171: the PWM
Sink keeps what it holds. -/
def Obligations.ResetCycleTakesResetValues : Prop :=
  ∀ (p : PortsIn) (s : State), p.rst = true →
    ∃ t, cycle p s = .next t ∧ Sys2Proof.Claims.registersAtReset t ∧ t.pwmHeld = s.pwmHeld ∧
      eventPorts (emittedSince s t) = EventPorts.quiet ∧ step (s.feed .reset) = .next t

/-- R28 at reset, for both values of GATE_RESET (R6). -/
def Obligations.ResetMeetsInvariants : Prop := ∀ gateReset, (State.resetWith gateReset).Inv

/-- R28: every step, whatever the environment presents, keeps the invariants. -/
def Obligations.EveryStepKeepsInvariants : Prop :=
  ∀ s t : State, s.Inv → step s = .next t → t.Inv

/-- R145: nothing else faults; every step, in every state, answers a next state. -/
def Obligations.EveryStepAnswersNext : Prop := ∀ s : State, ∃ t, step s = .next t

/-- R30: PWM_HELD is none or DUTY, and every step but reset keeps it so. -/
def Obligations.SinkHoldsDutyAfterFirstWrite : Prop :=
  ∀ (x : Stimulus) (s t : State), x ≠ .reset → (s.pwmHeld = none ∨ s.pwmHeld = some s.duty) →
    step (s.feed x) = .next t →
      (t.pwmHeld = none ∨ t.pwmHeld = some t.duty) ∧ (t.pwmHeld = none → s.pwmHeld = none)

/-! ### Decode and encode -/

/-- R61: the key code map, all sixteen codes. -/
def Obligations.KeyCodeMap : Prop :=
  ∀ c : KeyCode,
    (c.toNat ≤ 7 → decodeCommand c = .setSpeed c) ∧
    (c.toNat = 8 ∨ c.toNat = 9 → decodeCommand c = .setSpeedHigh c) ∧
    (c.toNat = 10 → decodeCommand c = .selectEco) ∧
    (c.toNat = 11 → decodeCommand c = .selectSport) ∧
    (c.toNat = 12 → decodeCommand c = .stop) ∧
    (c.toNat = 13 → decodeCommand c = .start) ∧
    (c.toNat = 14 ∨ c.toNat = 15 → decodeCommand c = .unrecognized c) ∧
    ((decodeCommand c).instr.row.format = if c.toNat ≤ 9 then .kD else .kC)

/-- R66: bits 23 to 16 are the interval selector and bits 15 to 0 the tick limit, looked at only while
cfg_valid_i = 1. -/
def Obligations.ConfigureWordLayout : Prop :=
  (∀ w : ConfigWord, ∃ sel lim, decode (.cfg w) = .ok (.configure sel lim) ∧
    sel.toNat = w.toNat / 2 ^ 16 ∧ lim.toNat = w.toNat % 2 ^ 16) ∧
  (∀ (p : PortsIn) (w : ConfigWord) (s : State), p.cfgValid = false → cycle { p with cfgWord := w } s = cycle p s)

/-- A few words written out from the encodings of R61, R66, R68, R69. -/
def Obligations.KnownWordsDecode : Prop :=
  decode (.cfg 0b000000110000000000000101#24) = .ok (.configure 3#8 5#16) ∧
  decode (.evt 0b1#1) = .ok .tick ∧ decode (.evt 0b0#1) = .error .noFiring ∧
  decode (.key 0b0011#4) = .ok (.setSpeed 3#4) ∧ decode (.key 0b1001#4) = .ok (.setSpeedHigh 9#4) ∧
  decode (.key 0b1010#4) = .ok .selectEco ∧ decode (.key 0b1100#4) = .ok .stop ∧
  decode (.key 0b1111#4) = .ok (.unrecognized 15#4) ∧
  decode (.seq 0b01#2 false) = .ok .rampStep ∧ decode (.seq 0b01#2 true) = .ok (.dlyHold 1#2)

/-- Decoding the encoding of a well-formed operation gives it back. -/
def Obligations.DecodeOfEncode : Prop := ∀ i : Instr, i.wf = true → decode (encode i) = .ok i

/-- What the decoder answers is well formed, and its encoding is the word that was read. -/
def Obligations.EncodeOfDecode : Prop :=
  ∀ (w : PortWord) (i : Instr), decode w = .ok i → i.wf = true ∧ encode i = w

/-- R72: every word that decodes selects exactly one row of the table, under the priority of R68, and it is the row of
the operation decoded. -/
def Obligations.EveryWordSelectsOneRow : Prop :=
  ∀ (w : PortWord) (i : Instr), decode w = .ok i → (rowsFor w).filter (·.selects w.code) = [i.row]

/-! ### The step -/

/-- What a step runs: the decoded operation on the state in which its stimulus is presented, and the stimulus is taken;
where no word is selected, the stimulus is taken and nothing else happens. Presenting and taking a stimulus (State.present,
State.retire, State.feed), and with them the last clause, are the model's own choice, its list of inputs (log entry 2); the
spec gives the decoder and the atomic step, and no such list. -/
def Obligations.StepRunsTheDecodedOperation : Prop :=
  (∀ (s : State) (w : PortWord) (i : Instr), s.present.selectWord = some w → decode w = .ok i →
    step s = mapNext State.retire (exec i s.present)) ∧
  (∀ (x : Stimulus) (s : State), x ≠ .reset → (s.feed x).selectWord = none → step (s.feed x) = .next s) ∧
  (∀ (w : ConfigWord) (s : State), (s.feed (.configure w)).selectWord = some (.cfg w)) ∧
  (∀ s : State, (s.feed .tick).selectWord = some (.evt 1#1)) ∧
  (∀ (x : Stimulus) (s : State), (s.feed x).present = s.feed x ∧ (s.feed x).retire = s)

/-- R68: the sequencer's selection, by the first line that applies; KEYPOLL and the command it returns are one step. -/
def Obligations.SequencerSelection : Prop :=
  ∀ (key : Option KeyCode) (s : State),
    (s.configured = false ∨ s.fault = true →
      (s.feed (.sequencer key)).select = .nothing ∧ step (s.feed (.sequencer key)) = .next s) ∧
    (s.configured = true → s.fault = false →
      (s.dly ≠ 0 → (s.feed (.sequencer key)).select = .run (.dlyHold s.phase.bits)) ∧
      (s.dly = 0 →
        (s.phase = .idle → (s.feed (.sequencer key)).select = .run .keypoll ∧
          ∀ c, key = some c → s.gate = true → step (s.feed (.sequencer key)) =
            mapNext State.retire (exec (decodeCommand c).instr { s.feed (.sequencer key) with gate := false })) ∧
        (s.phase = .ramp → (s.feed (.sequencer key)).select = .run .rampStep) ∧
        (s.phase = .stopRamp → (s.feed (.sequencer key)).select = .run .stopStep) ∧
        (s.phase = .penalty → (s.feed (.sequencer key)).select = .run .penaltyExit)))

/-- The model's own convention (log entries 7 and 8): a bare table word is read by its width, decoded as the port of
that width decodes it, and placed so that the next step selects and runs it; a key or no key is presented to KEYPOLL,
which dispatches it in the same step. A word no port takes decodes to nothing and places nothing. -/
def Obligations.PlacedWordIsRun : Prop :=
  (∀ (s : State) (nbits w : Nat) (pw : PortWord), portWordOf nbits w = .ok pw →
    s.withFetchWord nbits w = s.placeWord pw ∧ ∀ i, decode pw = .ok i → decodeTableWord nbits w = some i) ∧
  (∀ (s : State) (nbits w : Nat) (e : DecodeError), portWordOf nbits w = .error e →
    s.withFetchWord nbits w = s ∧ decodeTableWord nbits w = none) ∧
  (∀ w : Nat,
    (w < 2 ^ 24 → portWordOf 24 w = .ok (.cfg (BitVec.ofNat 24 w))) ∧
    (w < 2 → portWordOf 1 w = .ok (.evt (BitVec.ofNat 1 w))) ∧
    (w = 0 → portWordOf 0 w = .ok .noKey) ∧
    (w < 16 → portWordOf 4 w = .ok (.key (BitVec.ofNat 4 w)) ∧ portWordOf 8 w = .ok (.key (BitVec.ofNat 4 w))) ∧
    (w < 4 → portWordOf 2 w = .ok (.seq (BitVec.ofNat 2 w) false))) ∧
  (∀ (s : State) (pw : PortWord) (i : Instr), (s.placeWord pw).select = .run i → pw ≠ .evt 0#1 →
    step (s.placeWord pw) = mapNext State.retire (exec i (s.placeWord pw))) ∧
  (∀ (s : State) (w : ConfigWord), (s.placeWord (.cfg w)).select = .run (.configure (configSelector w) (configLimit w))) ∧
  (∀ s : State, (s.placeWord (.evt 1#1)).select = .run .tick) ∧
  (∀ (s : State) (b : BitVec 2) (hold : Bool), (s.placeWord (.seq b hold)).select = .run (decodeSequencer b hold)) ∧
  (∀ (s : State) (c : KeyCode), (s.placeWord (.key c)).select = .run .keypoll ∧
    exec .keypoll (s.placeWord (.key c)) = exec (decodeCommand c).instr { s.placeWord (.key c) with gate := false }) ∧
  (∀ s : State, (s.placeWord .noKey).select = .run .keypoll ∧
    exec .keypoll (s.placeWord .noKey) = exec .nokey (s.placeWord .noKey))

/-! ### The Tick Source -/

/-- R80: CONFIGURE, accepted; tick steps count and sequencer steps run from then on. -/
def Obligations.ConfigureAccepted : Prop :=
  ∀ (sel : Selector) (lim : TickCount) (s : State), s.configured = false → s.fault = false → lim ≠ 0#16 →
    exec (.configure sel lim) s = .next { s with prescSel := sel, tickLimit := lim, configured := true } ∧
    ({ s with prescSel := sel, tickLimit := lim, configured := true } : State).running = true

/-- R81: CONFIGURE with tick_limit = 0 sets FAULT and nothing else, and the block is halted until reset. -/
def Obligations.ConfigureZeroIsFatal : Prop :=
  ∀ (sel : Selector) (s : State), s.configured = false → s.fault = false →
    exec (.configure sel 0#16) s = .next { s with fault := true } ∧
    (∀ x, x ≠ .reset → step ({ s with fault := true }.feed x) = .next { s with fault := true }) ∧
    ∃ t, step ({ s with fault := true }.feed .reset) = .next t ∧ t.fault = false

/-- R84: CONFIGURE when already configured or faulted. -/
def Obligations.ConfigureIgnored : Prop :=
  ∀ (sel : Selector) (lim : TickCount) (s : State), s.configured = true ∨ s.fault = true →
    exec (.configure sel lim) s = .next s

/-- R82: TICK, for every count whose successor fits the register, which R131 shows is every reachable one. -/
def Obligations.TickCounts : Prop :=
  ∀ s : State, s.configured = true → s.fault = false → s.tickCnt.toNat + 1 < 2 ^ 16 →
    (s.tickCnt.toNat + 1 = s.tickLimit.toNat →
      exec .tick s = .next { s with tickCnt := 0#16, gate := true, trace := s.trace ++ [.ack, .maint] }) ∧
    (s.tickCnt.toNat + 1 ≠ s.tickLimit.toNat →
      exec .tick s = .next { s with tickCnt := s.tickCnt + 1#16, trace := s.trace ++ [.ack] })

/-- R83: TICK when the block is not configured or is faulted. -/
def Obligations.TickIgnored : Prop :=
  ∀ s : State, s.configured = false ∨ s.fault = true → exec .tick s = .next s

/-- R85: in any run without a reset, TICK_CNT counts the ticks modulo TICK_LIMIT, and the maintenance callback has run
once for each full interval, whatever else happens between the ticks. -/
def Obligations.MaintenanceOncePerLimit : Prop :=
  ∀ (xs : List Stimulus) (s t : State), s.configured = true → s.fault = false → s.tickCnt.toNat < s.tickLimit.toNat →
    (∀ x ∈ xs, x ≠ .reset) → runStimuli xs s = .next t →
      t.tickLimit = s.tickLimit ∧
      t.tickCnt.toNat = (s.tickCnt.toNat + xs.count .tick) % s.tickLimit.toNat ∧
      t.trace.count .maint = s.trace.count .maint + (s.tickCnt.toNat + xs.count .tick) / s.tickLimit.toNat ∧
      t.trace.count .ack = s.trace.count .ack + xs.count .tick

/-- R26, R50, R87, R153: which agent writes which register; the last two clauses are about the model's own fields (log
entry 2). -/
def Obligations.AgentsWriteTheirOwnRegisters : Prop :=
  ∀ (x : Stimulus) (s t : State), x ≠ .reset → step (s.feed x) = .next t →
    (x ≠ .tick → t.tickCnt = s.tickCnt) ∧
    ((∀ w, x ≠ .configure w) → t.tickLimit = s.tickLimit ∧ t.prescSel = s.prescSel ∧ t.configured = s.configured ∧
      t.fault = s.fault) ∧
    ((∀ key, x ≠ .sequencer key) → t.mode = s.mode ∧ t.speed = s.speed ∧ t.duty = s.duty ∧ t.target = s.target ∧
      t.pend = s.pend ∧ t.phase = s.phase ∧ t.dly = s.dly ∧ t.pwmHeld = s.pwmHeld) ∧
    t.inputs = s.inputs ∧ t.envCount = s.envCount

/-! ### The Input Gate -/

/-- R90: KEYPOLL, and that the keypad is not polled while the sequencer is busy, whatever GATE is. -/
def Obligations.KeypollPollsOnlyThroughAnOpenGate : Prop :=
  ∀ s : State,
    (s.configured = false ∨ s.fault = true → exec .keypoll s = .next s) ∧
    (s.configured = true → s.fault = false →
      (s.gate = false → exec .keypoll s = .next s) ∧
      (s.gate = true → s.keyPoll = none → exec .keypoll s = .next s) ∧
      (∀ c, s.gate = true → s.keyPoll = some c →
        exec .keypoll s = exec (decodeCommand c).instr { s with gate := false })) ∧
    (∀ key, s.phase ≠ .idle ∨ s.dly ≠ 0 → step (s.feed (.sequencer key)) = step (s.feed (.sequencer none)))

/-- KEYPOLL always completes; it closes the gate exactly when it takes a key, changes nothing otherwise, and never touches
the registers of the tick and configure agents (R26, R90, R91). -/
def Obligations.KeypollFrame : Prop :=
  ∀ s : State, ∃ t, exec .keypoll s = .next t ∧
    (s.running = true ∧ s.gate = true ∧ s.keyPoll.isSome = true → t.gate = false) ∧
    (¬(s.running = true ∧ s.gate = true ∧ s.keyPoll.isSome = true) → t = s) ∧
    t.tickCnt = s.tickCnt ∧ t.tickLimit = s.tickLimit ∧ t.prescSel = s.prescSel ∧ t.configured = s.configured ∧
    t.fault = s.fault ∧ t.inputs = s.inputs ∧ t.envCount = s.envCount ∧ s.trace <+: t.trace

/-- R92: a poll that returns no key. -/
def Obligations.NoKeyChangesNothing : Prop :=
  ∀ s : State, exec .nokey s = .next s ∧
    (s.accepting = true → step (s.feed (.sequencer none)) = .next s)

/-- R19, R91, R94: GATE rises only in a maintenance tick and falls exactly in a step that accepts a key. -/
def Obligations.GateWriters : Prop :=
  ∀ (x : Stimulus) (s t : State), x ≠ .reset → step (s.feed x) = .next t →
    (s.gate = false → (t.gate = true ↔
      x = .tick ∧ s.configured = true ∧ s.fault = false ∧ s.tickCnt.toNat + 1 = s.tickLimit.toNat)) ∧
    (s.gate = true → (t.gate = false ↔ (∃ c, x = .sequencer (some c)) ∧ s.accepting = true))

/-- R44: a key presented while the block is not accepting has no effect of any kind. -/
def Obligations.KeysUnseenUnlessAccepting : Prop :=
  ∀ (k l : Option KeyCode) (s : State), s.accepting = false →
    step (s.feed (.sequencer k)) = step (s.feed (.sequencer l))

/-- R95: after a key is accepted the gate stays closed, so no key is taken, for every run with fewer than
TICK_LIMIT - TICK_CNT ticks, and the tick that completes that number opens it. -/
def Obligations.CooldownLastsToNextMaintenance : Prop :=
  ∀ (xs : List Stimulus) (s : State), s.configured = true → s.fault = false → s.gate = false →
    s.tickCnt.toNat < s.tickLimit.toNat → (∀ x ∈ xs, x ≠ .reset) →
    xs.count .tick < s.tickLimit.toNat - s.tickCnt.toNat →
      ∃ t, runStimuli xs s = .next t ∧ t.gate = false ∧ t.accepting = false ∧
        (xs.count .tick + 1 = s.tickLimit.toNat - s.tickCnt.toNat →
          ∃ u, runStimuli (xs ++ [.tick]) s = .next u ∧ u.gate = true)

/-! ### The Drive State Machine -/

/-- R100 and R101: the mode selects. -/
def Obligations.ModeSelects : Prop :=
  ∀ s : State,
    exec .selectEco s = .next { s with mode := .eco, trace := s.trace ++ [.disp .modeEco] } ∧
    exec .selectSport s = .next { s with mode := .sport, trace := s.trace ++ [.disp .modeSport] } ∧
    DispCode.modeEco.bits = 1#3 ∧ DispCode.modeSport.bits = 2#3 ∧ DriveMode.eco.bit = 0#1 ∧ DriveMode.sport.bit = 1#1

/-- R102, the dispatch step of STOP. -/
def Obligations.StopDispatch : Prop :=
  ∀ s : State, exec .stop s = .next { s with target := 0#7, phase := .stopRamp }

/-- R103: START. -/
def Obligations.StartWritesTheBaseline : Prop :=
  ∀ s : State, exec .start s =
    .next { s with duty := 20#7, speed := 1#3, trace := s.trace ++ [.pwm 20#7], pwmHeld := some 20#7 }

/-- R104: SET_SPEED, both rows, every digit, every state, with the numeric codes of its events. -/
def Obligations.SetSpeedRule : Prop :=
  Sys2Proof.Claims.setSpeedCodes ∧
  ∀ (n : KeyCode) (s : State) (i : Instr), i = .setSpeed n ∨ i = .setSpeedHigh n →
    (1 < ((n.toNat : Int) - s.speed.toNat).natAbs →
      exec i s = .next
        { s with trace := s.trace ++ [.disp .badShift], dly := Config.badShiftDelay, phase := .penalty }) ∧
    (((n.toNat : Int) - s.speed.toNat).natAbs ≤ 1 →
      (¬(1 ≤ n.toNat ∧ n.toNat ≤ 5) →
        exec i s = .next { s with trace := s.trace ++ [.log .invalidDigit n] }) ∧
      (∀ d, [20#7, 25#7, 30#7, 40#7, 50#7][n.toNat - 1]? = some d → 1 ≤ n.toNat →
        (s.mode = .sport → exec i s = .next
          { s with
            trace := s.trace ++ [.disp .clearProc, .pwm d], duty := d, pwmHeld := some d,
            speed := BitVec.ofNat 3 n.toNat }) ∧
        (s.mode = .eco → exec i s = .next
          { s with
            trace := s.trace ++ [.disp .clearProc], target := d, pend := BitVec.ofNat 3 n.toNat,
            phase := .ramp })))

/-- R106: the outcome for every SPEED and every digit, with the numeric codes of its events. -/
def Obligations.SetSpeedOutcomeMatrix : Prop :=
  Sys2Proof.Claims.setSpeedCodes ∧
  ∀ (c : KeyCode) (s : State) (cell : Sys2Proof.Claims.Cell), 1 ≤ s.speed.toNat → s.speed.toNat ≤ 5 → c.toNat ≤ 9 →
    Sys2Proof.Claims.entry s.speed.toNat c.toNat = some cell →
      ∃ t, exec (decodeCommand c).instr s = .next t ∧ Sys2Proof.Claims.shows cell c s t

/-- R108: UNRECOGNIZED. -/
def Obligations.UnrecognizedIsLogged : Prop :=
  ∀ (c : KeyCode) (s : State),
    exec (.unrecognized c) s = .next { s with trace := s.trace ++ [.log .unrecognized c] } ∧
    LogCode.unrecognized.bits = 2#2

/-- R11, R12: MODE is written only by an accepted mode select, SPEED only by an accepted Sport SET_SPEED, by START and by
the completion of a ramp or of STOP, and with these values. -/
def Obligations.ModeAndSpeedWriters : Prop :=
  ∀ (x : Stimulus) (s t : State), x ≠ .reset → step (s.feed x) = .next t →
    (t.mode ≠ s.mode → s.accepting = true ∧
      ((x = .sequencer (some 0xA#4) ∧ t.mode = .eco) ∨ (x = .sequencer (some 0xB#4) ∧ t.mode = .sport))) ∧
    (t.speed ≠ s.speed →
      (s.phase = .idle ∧ s.accepting = true ∧ ∃ c : KeyCode, x = .sequencer (some c) ∧
        ((c = 0xD#4 ∧ t.speed = 1#3) ∨
          (1 ≤ c.toNat ∧ c.toNat ≤ 5 ∧ s.mode = .sport ∧ t.speed.toNat = c.toNat ∧
            ((c.toNat : Int) - s.speed.toNat).natAbs ≤ 1))) ∨
      (s.phase = .ramp ∧ s.dly = 0 ∧ s.duty = s.target ∧ t.speed = s.pend) ∨
      (s.phase = .stopRamp ∧ s.dly = 0 ∧ s.duty = 0#7 ∧ t.speed = 1#3))

/-! ### The Duty Ramp Controller -/

/-- R120: RAMP_STEP, moving. -/
def Obligations.RampStepMovesOneUnit : Prop :=
  ∀ s : State, s.duty ≠ s.target →
    ∃ d : Duty, d.toNat = (if s.duty.toNat < s.target.toNat then s.duty.toNat + 1 else s.duty.toNat - 1) ∧
      exec .rampStep s = .next
        { s with duty := d, pwmHeld := some d, trace := s.trace ++ [.pwm d], dly := Config.rampStepDelay }

/-- R121: RAMP_STEP, completion. -/
def Obligations.RampStepCompletes : Prop :=
  ∀ s : State, s.duty = s.target → exec .rampStep s = .next { s with speed := s.pend, phase := .idle }

/-- R122: STOP_STEP, moving, in either mode. -/
def Obligations.StopStepMovesDown : Prop :=
  ∀ s : State, s.duty ≠ 0#7 →
    ∃ d : Duty, d.toNat + 1 = s.duty.toNat ∧
      exec .stopStep s = .next
        { s with duty := d, pwmHeld := some d, trace := s.trace ++ [.pwm d], dly := Config.rampStepDelay }

/-- R123: STOP_STEP, completion. -/
def Obligations.StopStepCompletes : Prop :=
  ∀ s : State, s.duty = 0#7 →
    exec .stopStep s = .next
      { s with
        duty := 0#7, pwmHeld := some 0#7, trace := s.trace ++ [.pwm 0#7, .disp .stopped], speed := 1#3,
        phase := .idle } ∧ DispCode.stopped.bits = 3#3

/-- R124: PENALTY_EXIT. -/
def Obligations.PenaltyExitReturnsToIdle : Prop :=
  ∀ s : State, exec .penaltyExit s = .next { s with phase := .idle }

/-- R125: DLY_HOLD, and a hold lasts exactly DLY sequencer steps, with any keys presented. -/
def Obligations.HoldLastsDlySteps : Prop :=
  (∀ (p : BitVec 2) (s : State), s.dly ≠ 0 → exec (.dlyHold p) s = .next { s with dly := s.dly - 1 }) ∧
  (∀ (keys : List (Option KeyCode)) (s : State), s.configured = true → s.fault = false → keys.length ≤ s.dly →
    runStimuli (keys.map .sequencer) s = .next { s with dly := s.dly - keys.length })

/-- R127: while ramping, a moving step brings DUTY one unit nearer to its goal, never past it, and only a DUTY at its
goal ends the ramp. -/
def Obligations.RampsConvergeByUnits : Prop :=
  ∀ (key : Option KeyCode) (s t : State), s.configured = true → s.fault = false → s.dly = 0 →
    s.phase = .ramp ∨ (s.phase = .stopRamp ∧ s.target = 0#7) → step (s.feed (.sequencer key)) = .next t →
      t.target = s.target ∧
      (s.duty ≠ s.target → t.phase = s.phase ∧ dutyDistance t.target t.duty + 1 = dutyDistance s.target s.duty ∧
        (s.duty.toNat < s.target.toNat → s.duty.toNat < t.duty.toNat) ∧
        (s.target.toNat < s.duty.toNat → t.duty.toNat < s.duty.toNat) ∧ t.pwmHeld = some t.duty) ∧
      (s.duty = s.target → t.phase = .idle ∧ t.duty = s.duty)

/-- R128: inside a ramp a step changes DUTY by at most one unit, and a step that changes it starts a hold of
RAMP_STEP_DELAY steps and was itself not a hold. -/
def Obligations.BoundedSlewInRamps : Prop :=
  ∀ (x : Stimulus) (s t : State), x ≠ .reset → s.phase = .ramp ∨ s.phase = .stopRamp → step (s.feed x) = .next t →
    ((t.duty.toNat : Int) - s.duty.toNat).natAbs ≤ 1 ∧
    (t.duty ≠ s.duty → s.dly = 0 ∧ t.dly = Config.rampStepDelay ∧ t.phase = s.phase)

/-- R130: exactly this number of sequencer steps brings the sequencer to IDLE, whatever ticks, configure words and keys
come meanwhile; with fewer it is still busy. -/
def Obligations.CommandsTerminate : Prop :=
  ∀ (xs : List Stimulus) (s : State) (n : Nat), s.configured = true → s.fault = false → (∀ x ∈ xs, x ≠ .reset) →
    ((s.phase = .ramp ∧
        n = ((s.target.toNat : Int) - s.duty.toNat).natAbs * (1 + Config.rampStepDelay) + 1 + s.dly) ∨
      (s.phase = .stopRamp ∧ n = s.duty.toNat * (1 + Config.rampStepDelay) + 1 + s.dly) ∨
      (s.phase = .penalty ∧ n = s.dly + 1)) →
    ∃ t, runStimuli xs s = .next t ∧
      (xs.countP Sys2Proof.Claims.isSequencer < n → t.busy = true) ∧
      (xs.countP Sys2Proof.Claims.isSequencer = n → t.phase = .idle ∧ t.dly = 0)

/-- The whole of an accepted Eco SET_SPEED (R104, R110, R120, R121, R126): dispatch, the ramp, the completion, with any
keys presented meanwhile. -/
def Obligations.EcoSpeedChange : Prop :=
  Sys2Proof.Claims.setSpeedCodes ∧
  ∀ (n : KeyCode) (d : Duty) (keys : List (Option KeyCode)) (s : State), s.accepting = true → s.mode = .eco →
    [20#7, 25#7, 30#7, 40#7, 50#7][n.toNat - 1]? = some d → 1 ≤ n.toNat →
    ((n.toNat : Int) - s.speed.toNat).natAbs ≤ 1 →
    keys.length = ((d.toNat : Int) - s.duty.toNat).natAbs * (1 + Config.rampStepDelay) + 1 →
      runStimuli (.sequencer (some n) :: keys.map .sequencer) s =
        .next { s with
          gate := false, target := d, pend := BitVec.ofNat 3 n.toNat, speed := BitVec.ofNat 3 n.toNat, duty := d,
          trace := s.trace ++ .disp .clearProc :: rampEvents s.duty d,
          pwmHeld := if s.duty = d then s.pwmHeld else some d }

/-- The whole of a STOP (R102, R110, R122, R123, R126), in either mode, with any keys presented meanwhile. -/
def Obligations.StopDrivesDutyToZero : Prop :=
  ∀ (keys : List (Option KeyCode)) (s : State), s.accepting = true →
    keys.length = s.duty.toNat * (1 + Config.rampStepDelay) + 1 →
      runStimuli (.sequencer (some 0xC#4) :: keys.map .sequencer) s =
        .next { s with
          gate := false, target := 0#7, speed := 1#3, duty := 0#7, pwmHeld := some 0#7,
          trace := s.trace ++ rampEvents s.duty 0#7 ++ [.pwm 0#7, .disp .stopped] }

/-- The whole of a Bad Shift (R104, R110, R124, R140): one display event, with code 5
and the text "Bad Shift", the hold, and the drive state as it was. -/
def Obligations.BadShiftLeavesDriveState : Prop :=
  Sys2Proof.Claims.setSpeedCodes ∧
  ∀ (c : KeyCode) (keys : List (Option KeyCode)) (s : State), s.accepting = true → c.toNat ≤ 9 →
    1 < ((c.toNat : Int) - s.speed.toNat).natAbs → keys.length = Config.badShiftDelay + 1 →
      runStimuli (.sequencer (some c) :: keys.map .sequencer) s =
        .next { s with gate := false, trace := s.trace ++ [.disp .badShift] }

/-- R132: the transition relation of PHASE, in both directions: a step other than reset changes PHASE to q exactly when
the table has the row; reset leaves IDLE. -/
def Obligations.PhaseTransitions : Prop :=
  (∀ (x : Stimulus) (s t : State) (q : Phase), x ≠ .reset → step (s.feed x) = .next t → q ≠ s.phase →
    (t.phase = q ↔ Sys2Proof.Claims.phaseMoves x s q)) ∧
  (∀ s : State, ∃ t, step (s.feed .reset) = .next t ∧ t.phase = .idle)

/-- RUN ends with BUSY = 0 (R74, R130). -/
def Obligations.RunEndsIdle : Prop :=
  ∀ s : State, s.running = true → ∃ t, runLine s = .next t ∧ t.busy = false

/-! ### Events, flags and ports -/

/-- R13: a step that changes DUTY writes the same value to the PWM Sink. -/
def Obligations.DutyChangesWithAPwmWrite : Prop :=
  ∀ (x : Stimulus) (s t : State), x ≠ .reset → step (s.feed x) = .next t → t.duty ≠ s.duty →
    t.pwmHeld = some t.duty ∧ .pwm t.duty ∈ t.trace.drop s.trace.length

/-- R45, R131: the block only ever writes the values 0 to 50 to the PWM Sink, and no tick count overflows. -/
def Obligations.PwmValuesInRange : Prop :=
  ∀ (x : Stimulus) (s t : State), s.Inv → step (s.feed x) = .next t →
    (∀ v, .pwm v ∈ t.trace.drop s.trace.length → v.toNat ≤ 50) ∧
    (s.configured = true → s.tickCnt.toNat + 1 ≤ 65535)

/-- R21: FAULT is set exactly by a CONFIGURE with tick_limit = 0 before the block is configured, stays until reset, and while it is set nothing changes. -/
def Obligations.FaultIsStickyAndHalts : Prop :=
  (∀ (x : Stimulus) (s : State), s.fault = true → s.good = false ∧
    (x ≠ .reset → step (s.feed x) = .next s) ∧
    ∃ t, step (s.feed .reset) = .next t ∧ t.fault = false) ∧
  (∀ (x : Stimulus) (s t : State), s.fault = false → step (s.feed x) = .next t →
    (t.fault = true ↔ s.configured = false ∧ ∃ w : ConfigWord, x = .configure w ∧ w.toNat % 2 ^ 16 = 0))

/-- R22: the derived flags, and ACCEPTING is exactly the condition under which a pressed key is taken. -/
def Obligations.DerivedFlags : Prop :=
  ∀ s : State,
    (s.busy = true ↔ s.phase ≠ .idle ∨ s.dly ≠ 0) ∧
    (s.stopped = true ↔ s.duty = 0#7) ∧
    (s.accepting = true ↔ s.configured = true ∧ s.fault = false ∧ s.phase = .idle ∧ s.dly = 0 ∧ s.gate = true) ∧
    (∀ (c : KeyCode) (t : State), step (s.feed (.sequencer (some c))) = .next t →
      (s.accepting = true ↔ s.gate = true ∧ t.gate = false))

/-- R28 (g): BUSY is PHASE ≠ IDLE in every state that meets the invariants. -/
def Obligations.BusyIsPhaseInInvariantStates : Prop :=
  ∀ s : State, s.Inv → (s.busy = true ↔ s.phase ≠ .idle)

/-- R52: one cycle is a configure step, a tick step and a sequencer step, in this order, each on what the one before it
left. -/
def Obligations.CycleOrder : Prop :=
  ∀ (p : PortsIn) (s : State), p.rst = false →
    ∃ a b c : State,
      (if p.cfgValid then step (s.feed (.configure p.cfgWord)) = .next a else a = s) ∧
      (if p.tick then step (a.feed .tick) = .next b else b = a) ∧
      step (b.feed (.sequencer (if p.keyValid then some p.keyCode else none))) = .next c ∧
      cycle p s = .next c

/-- R43: in one cycle each event port carries at most one event. -/
def Obligations.OneEventPerPort : Prop :=
  ∀ (p : PortsIn) (s t : State), cycle p s = .next t →
    (p.rst = false → s.trace ++ emittedSince s t = t.trace) ∧
    (emittedSince s t).count .ack ≤ 1 ∧ (emittedSince s t).count .maint ≤ 1 ∧
    (emittedSince s t).countP Sys2Proof.Claims.isPwm ≤ 1 ∧ (emittedSince s t).countP Sys2Proof.Claims.isDisp ≤ 1 ∧
    (emittedSince s t).countP Sys2Proof.Claims.isLog ≤ 1

/-- R149 (b): a maintenance tick and a key in one cycle: the key is taken, and GATE ends at 0. -/
def Obligations.MaintenanceAndKeyInOneCycle : Prop :=
  ∀ (p : PortsIn) (s t : State), p.rst = false → p.tick = true → p.keyValid = true → s.configured = true →
    s.fault = false → s.phase = .idle → s.dly = 0 → s.tickCnt.toNat + 1 = s.tickLimit.toNat →
    cycle p s = .next t →
      t.gate = false ∧ t.tickCnt = 0#16 ∧ exec (decodeCommand p.keyCode).instr
        { s with tickCnt := 0#16, gate := false, trace := s.trace ++ [.ack, .maint] } = .next t

/-- R42, R45 to R48, R57: an event port's strobe is 1 exactly when the cycle emitted such an event; where it emitted one
(R43: never more), the payload is that event's own, with the code the tables of R70 and R71 give it; without the strobe
the payload is 0. -/
def Obligations.PayloadsAreZeroWithoutStrobe : Prop :=
  ∀ events : List Event,
    ((eventPorts events).pwmWe = false → (eventPorts events).pwmDuty = 0#7) ∧
    ((eventPorts events).dispValid = false → (eventPorts events).dispCode = 0#3) ∧
    ((eventPorts events).logValid = false → (eventPorts events).logCode = 0#2 ∧ (eventPorts events).logArg = 0#4) ∧
    ((eventPorts events).tickAck = true ↔ .ack ∈ events) ∧
    ((eventPorts events).maint = true ↔ .maint ∈ events) ∧
    ((eventPorts events).pwmWe = true ↔ ∃ v, .pwm v ∈ events) ∧
    ((eventPorts events).dispValid = true ↔ ∃ code, .disp code ∈ events) ∧
    ((eventPorts events).logValid = true ↔ ∃ code arg, .log code arg ∈ events) ∧
    (∀ v, .pwm v ∈ events → events.countP Sys2Proof.Claims.isPwm ≤ 1 → (eventPorts events).pwmDuty = v) ∧
    (∀ code, .disp code ∈ events → events.countP Sys2Proof.Claims.isDisp ≤ 1 →
      (eventPorts events).dispCode = Sys2Proof.Claims.dispNumber code) ∧
    (∀ code arg, .log code arg ∈ events → events.countP Sys2Proof.Claims.isLog ≤ 1 →
      (eventPorts events).logCode = Sys2Proof.Claims.logNumber code ∧ (eventPorts events).logArg = arg)

/-- The model's own choice (log entry 2): with no listed input, a step is one in which the environment's next free
stimulus arrives. -/
def Obligations.UnlistedInputsAreFree : Prop :=
  ∀ s : State, s.inputs = [] →
    step s = step ({ s with envCount := s.envCount + 1 }.feed (Config.environment s.envCount))

/-- R16, R42: every register is on a status port of its own, with the numeric code of MODE and PHASE (R11, R17); timer_en_o
is CONFIGURED and not FAULT, and the derived flags are R22's; two states that agree on the ports agree on every
register. -/
def Obligations.StatusPortsShowTheRegisters : Prop :=
  (∀ s : State,
    (s.statusPorts.timerEn = true ↔ s.configured = true ∧ s.fault = false) ∧
    s.statusPorts.prescSel = s.prescSel ∧
    (s.mode = .eco → s.statusPorts.mode = 0#1) ∧ (s.mode = .sport → s.statusPorts.mode = 1#1) ∧
    s.statusPorts.speed = s.speed ∧ s.statusPorts.duty = s.duty ∧ s.statusPorts.target = s.target ∧
    s.statusPorts.pend = s.pend ∧ s.statusPorts.tickCnt = s.tickCnt ∧ s.statusPorts.tickLimit = s.tickLimit ∧
    s.statusPorts.gate = s.gate ∧ s.statusPorts.configured = s.configured ∧ s.statusPorts.fault = s.fault ∧
    (s.phase = .idle → s.statusPorts.phase = 0#2) ∧ (s.phase = .ramp → s.statusPorts.phase = 1#2) ∧
    (s.phase = .stopRamp → s.statusPorts.phase = 2#2) ∧ (s.phase = .penalty → s.statusPorts.phase = 3#2) ∧
    s.statusPorts.dly = s.dly ∧
    (s.statusPorts.busy = true ↔ s.phase ≠ .idle ∨ s.dly ≠ 0) ∧ (s.statusPorts.stopped = true ↔ s.duty = 0#7) ∧
    (s.statusPorts.accepting = true ↔
      s.configured = true ∧ s.fault = false ∧ s.phase = .idle ∧ s.dly = 0 ∧ s.gate = true)) ∧
  (∀ s t : State, s.statusPorts = t.statusPorts →
    s = { t with pwmHeld := s.pwmHeld, trace := s.trace, inputs := s.inputs, envCount := s.envCount })
end

