-- ==== Sys2Proof/Laws/State.lean ====
section
/-! SUPPORT. One lemma per field per named update of State (Machine/Ops.lean, Machine/Fetch.lean), each true by rfl. -/

namespace Sys2Proof.Machine

@[simp] theorem emit_mode (e : Event) (s : State) : (s.emit e).mode = s.mode := rfl
@[simp] theorem emit_speed (e : Event) (s : State) : (s.emit e).speed = s.speed := rfl
@[simp] theorem emit_duty (e : Event) (s : State) : (s.emit e).duty = s.duty := rfl
@[simp] theorem emit_target (e : Event) (s : State) : (s.emit e).target = s.target := rfl
@[simp] theorem emit_pend (e : Event) (s : State) : (s.emit e).pend = s.pend := rfl
@[simp] theorem emit_tickCnt (e : Event) (s : State) : (s.emit e).tickCnt = s.tickCnt := rfl
@[simp] theorem emit_tickLimit (e : Event) (s : State) : (s.emit e).tickLimit = s.tickLimit := rfl
@[simp] theorem emit_prescSel (e : Event) (s : State) : (s.emit e).prescSel = s.prescSel := rfl
@[simp] theorem emit_gate (e : Event) (s : State) : (s.emit e).gate = s.gate := rfl
@[simp] theorem emit_configured (e : Event) (s : State) : (s.emit e).configured = s.configured := rfl
@[simp] theorem emit_fault (e : Event) (s : State) : (s.emit e).fault = s.fault := rfl
@[simp] theorem emit_phase (e : Event) (s : State) : (s.emit e).phase = s.phase := rfl
@[simp] theorem emit_dly (e : Event) (s : State) : (s.emit e).dly = s.dly := rfl
@[simp] theorem emit_pwmHeld (e : Event) (s : State) : (s.emit e).pwmHeld = s.pwmHeld := rfl
@[simp] theorem emit_trace (e : Event) (s : State) : (s.emit e).trace = s.trace ++ [e] := rfl
@[simp] theorem emit_inputs (e : Event) (s : State) : (s.emit e).inputs = s.inputs := rfl
@[simp] theorem emit_envCount (e : Event) (s : State) : (s.emit e).envCount = s.envCount := rfl

@[simp] theorem pwmWrite_mode (v : Duty) (s : State) : (s.pwmWrite v).mode = s.mode := rfl
@[simp] theorem pwmWrite_speed (v : Duty) (s : State) : (s.pwmWrite v).speed = s.speed := rfl
@[simp] theorem pwmWrite_duty (v : Duty) (s : State) : (s.pwmWrite v).duty = s.duty := rfl
@[simp] theorem pwmWrite_target (v : Duty) (s : State) : (s.pwmWrite v).target = s.target := rfl
@[simp] theorem pwmWrite_pend (v : Duty) (s : State) : (s.pwmWrite v).pend = s.pend := rfl
@[simp] theorem pwmWrite_tickCnt (v : Duty) (s : State) : (s.pwmWrite v).tickCnt = s.tickCnt := rfl
@[simp] theorem pwmWrite_tickLimit (v : Duty) (s : State) : (s.pwmWrite v).tickLimit = s.tickLimit := rfl
@[simp] theorem pwmWrite_prescSel (v : Duty) (s : State) : (s.pwmWrite v).prescSel = s.prescSel := rfl
@[simp] theorem pwmWrite_gate (v : Duty) (s : State) : (s.pwmWrite v).gate = s.gate := rfl
@[simp] theorem pwmWrite_configured (v : Duty) (s : State) : (s.pwmWrite v).configured = s.configured := rfl
@[simp] theorem pwmWrite_fault (v : Duty) (s : State) : (s.pwmWrite v).fault = s.fault := rfl
@[simp] theorem pwmWrite_phase (v : Duty) (s : State) : (s.pwmWrite v).phase = s.phase := rfl
@[simp] theorem pwmWrite_dly (v : Duty) (s : State) : (s.pwmWrite v).dly = s.dly := rfl
@[simp] theorem pwmWrite_pwmHeld (v : Duty) (s : State) : (s.pwmWrite v).pwmHeld = some v := rfl
@[simp] theorem pwmWrite_trace (v : Duty) (s : State) : (s.pwmWrite v).trace = s.trace ++ [.pwm v] := rfl
@[simp] theorem pwmWrite_inputs (v : Duty) (s : State) : (s.pwmWrite v).inputs = s.inputs := rfl
@[simp] theorem pwmWrite_envCount (v : Duty) (s : State) : (s.pwmWrite v).envCount = s.envCount := rfl

@[simp] theorem driveDuty_mode (v : Duty) (s : State) : (s.driveDuty v).mode = s.mode := rfl
@[simp] theorem driveDuty_speed (v : Duty) (s : State) : (s.driveDuty v).speed = s.speed := rfl
@[simp] theorem driveDuty_duty (v : Duty) (s : State) : (s.driveDuty v).duty = v := rfl
@[simp] theorem driveDuty_target (v : Duty) (s : State) : (s.driveDuty v).target = s.target := rfl
@[simp] theorem driveDuty_pend (v : Duty) (s : State) : (s.driveDuty v).pend = s.pend := rfl
@[simp] theorem driveDuty_tickCnt (v : Duty) (s : State) : (s.driveDuty v).tickCnt = s.tickCnt := rfl
@[simp] theorem driveDuty_tickLimit (v : Duty) (s : State) : (s.driveDuty v).tickLimit = s.tickLimit := rfl
@[simp] theorem driveDuty_prescSel (v : Duty) (s : State) : (s.driveDuty v).prescSel = s.prescSel := rfl
@[simp] theorem driveDuty_gate (v : Duty) (s : State) : (s.driveDuty v).gate = s.gate := rfl
@[simp] theorem driveDuty_configured (v : Duty) (s : State) : (s.driveDuty v).configured = s.configured := rfl
@[simp] theorem driveDuty_fault (v : Duty) (s : State) : (s.driveDuty v).fault = s.fault := rfl
@[simp] theorem driveDuty_phase (v : Duty) (s : State) : (s.driveDuty v).phase = s.phase := rfl
@[simp] theorem driveDuty_dly (v : Duty) (s : State) : (s.driveDuty v).dly = s.dly := rfl
@[simp] theorem driveDuty_pwmHeld (v : Duty) (s : State) : (s.driveDuty v).pwmHeld = some v := rfl
@[simp] theorem driveDuty_trace (v : Duty) (s : State) : (s.driveDuty v).trace = s.trace ++ [.pwm v] := rfl
@[simp] theorem driveDuty_inputs (v : Duty) (s : State) : (s.driveDuty v).inputs = s.inputs := rfl
@[simp] theorem driveDuty_envCount (v : Duty) (s : State) : (s.driveDuty v).envCount = s.envCount := rfl

@[simp] theorem dispWrite_mode (c : DispCode) (s : State) : (s.dispWrite c).mode = s.mode := rfl
@[simp] theorem dispWrite_speed (c : DispCode) (s : State) : (s.dispWrite c).speed = s.speed := rfl
@[simp] theorem dispWrite_duty (c : DispCode) (s : State) : (s.dispWrite c).duty = s.duty := rfl
@[simp] theorem dispWrite_target (c : DispCode) (s : State) : (s.dispWrite c).target = s.target := rfl
@[simp] theorem dispWrite_pend (c : DispCode) (s : State) : (s.dispWrite c).pend = s.pend := rfl
@[simp] theorem dispWrite_tickCnt (c : DispCode) (s : State) : (s.dispWrite c).tickCnt = s.tickCnt := rfl
@[simp] theorem dispWrite_tickLimit (c : DispCode) (s : State) : (s.dispWrite c).tickLimit = s.tickLimit := rfl
@[simp] theorem dispWrite_prescSel (c : DispCode) (s : State) : (s.dispWrite c).prescSel = s.prescSel := rfl
@[simp] theorem dispWrite_gate (c : DispCode) (s : State) : (s.dispWrite c).gate = s.gate := rfl
@[simp] theorem dispWrite_configured (c : DispCode) (s : State) : (s.dispWrite c).configured = s.configured := rfl
@[simp] theorem dispWrite_fault (c : DispCode) (s : State) : (s.dispWrite c).fault = s.fault := rfl
@[simp] theorem dispWrite_phase (c : DispCode) (s : State) : (s.dispWrite c).phase = s.phase := rfl
@[simp] theorem dispWrite_dly (c : DispCode) (s : State) : (s.dispWrite c).dly = s.dly := rfl
@[simp] theorem dispWrite_pwmHeld (c : DispCode) (s : State) : (s.dispWrite c).pwmHeld = s.pwmHeld := rfl
@[simp] theorem dispWrite_trace (c : DispCode) (s : State) : (s.dispWrite c).trace = s.trace ++ [.disp c] := rfl
@[simp] theorem dispWrite_inputs (c : DispCode) (s : State) : (s.dispWrite c).inputs = s.inputs := rfl
@[simp] theorem dispWrite_envCount (c : DispCode) (s : State) : (s.dispWrite c).envCount = s.envCount := rfl

@[simp] theorem logWrite_mode (c : LogCode) (a : KeyCode) (s : State) : (s.logWrite c a).mode = s.mode := rfl
@[simp] theorem logWrite_speed (c : LogCode) (a : KeyCode) (s : State) : (s.logWrite c a).speed = s.speed := rfl
@[simp] theorem logWrite_duty (c : LogCode) (a : KeyCode) (s : State) : (s.logWrite c a).duty = s.duty := rfl
@[simp] theorem logWrite_target (c : LogCode) (a : KeyCode) (s : State) : (s.logWrite c a).target = s.target := rfl
@[simp] theorem logWrite_pend (c : LogCode) (a : KeyCode) (s : State) : (s.logWrite c a).pend = s.pend := rfl
@[simp] theorem logWrite_tickCnt (c : LogCode) (a : KeyCode) (s : State) : (s.logWrite c a).tickCnt = s.tickCnt := rfl
@[simp] theorem logWrite_tickLimit (c : LogCode) (a : KeyCode) (s : State) : (s.logWrite c a).tickLimit = s.tickLimit := rfl
@[simp] theorem logWrite_prescSel (c : LogCode) (a : KeyCode) (s : State) : (s.logWrite c a).prescSel = s.prescSel := rfl
@[simp] theorem logWrite_gate (c : LogCode) (a : KeyCode) (s : State) : (s.logWrite c a).gate = s.gate := rfl
@[simp] theorem logWrite_configured (c : LogCode) (a : KeyCode) (s : State) : (s.logWrite c a).configured = s.configured := rfl
@[simp] theorem logWrite_fault (c : LogCode) (a : KeyCode) (s : State) : (s.logWrite c a).fault = s.fault := rfl
@[simp] theorem logWrite_phase (c : LogCode) (a : KeyCode) (s : State) : (s.logWrite c a).phase = s.phase := rfl
@[simp] theorem logWrite_dly (c : LogCode) (a : KeyCode) (s : State) : (s.logWrite c a).dly = s.dly := rfl
@[simp] theorem logWrite_pwmHeld (c : LogCode) (a : KeyCode) (s : State) : (s.logWrite c a).pwmHeld = s.pwmHeld := rfl
@[simp] theorem logWrite_trace (c : LogCode) (a : KeyCode) (s : State) : (s.logWrite c a).trace = s.trace ++ [.log c a] := rfl
@[simp] theorem logWrite_inputs (c : LogCode) (a : KeyCode) (s : State) : (s.logWrite c a).inputs = s.inputs := rfl
@[simp] theorem logWrite_envCount (c : LogCode) (a : KeyCode) (s : State) : (s.logWrite c a).envCount = s.envCount := rfl

@[simp] theorem tickAck_mode (s : State) : (s.tickAck).mode = s.mode := rfl
@[simp] theorem tickAck_speed (s : State) : (s.tickAck).speed = s.speed := rfl
@[simp] theorem tickAck_duty (s : State) : (s.tickAck).duty = s.duty := rfl
@[simp] theorem tickAck_target (s : State) : (s.tickAck).target = s.target := rfl
@[simp] theorem tickAck_pend (s : State) : (s.tickAck).pend = s.pend := rfl
@[simp] theorem tickAck_tickCnt (s : State) : (s.tickAck).tickCnt = s.tickCnt := rfl
@[simp] theorem tickAck_tickLimit (s : State) : (s.tickAck).tickLimit = s.tickLimit := rfl
@[simp] theorem tickAck_prescSel (s : State) : (s.tickAck).prescSel = s.prescSel := rfl
@[simp] theorem tickAck_gate (s : State) : (s.tickAck).gate = s.gate := rfl
@[simp] theorem tickAck_configured (s : State) : (s.tickAck).configured = s.configured := rfl
@[simp] theorem tickAck_fault (s : State) : (s.tickAck).fault = s.fault := rfl
@[simp] theorem tickAck_phase (s : State) : (s.tickAck).phase = s.phase := rfl
@[simp] theorem tickAck_dly (s : State) : (s.tickAck).dly = s.dly := rfl
@[simp] theorem tickAck_pwmHeld (s : State) : (s.tickAck).pwmHeld = s.pwmHeld := rfl
@[simp] theorem tickAck_trace (s : State) : (s.tickAck).trace = s.trace ++ [.ack] := rfl
@[simp] theorem tickAck_inputs (s : State) : (s.tickAck).inputs = s.inputs := rfl
@[simp] theorem tickAck_envCount (s : State) : (s.tickAck).envCount = s.envCount := rfl

@[simp] theorem enableGate_mode (s : State) : (s.enableGate).mode = s.mode := rfl
@[simp] theorem enableGate_speed (s : State) : (s.enableGate).speed = s.speed := rfl
@[simp] theorem enableGate_duty (s : State) : (s.enableGate).duty = s.duty := rfl
@[simp] theorem enableGate_target (s : State) : (s.enableGate).target = s.target := rfl
@[simp] theorem enableGate_pend (s : State) : (s.enableGate).pend = s.pend := rfl
@[simp] theorem enableGate_tickCnt (s : State) : (s.enableGate).tickCnt = 0#16 := rfl
@[simp] theorem enableGate_tickLimit (s : State) : (s.enableGate).tickLimit = s.tickLimit := rfl
@[simp] theorem enableGate_prescSel (s : State) : (s.enableGate).prescSel = s.prescSel := rfl
@[simp] theorem enableGate_gate (s : State) : (s.enableGate).gate = true := rfl
@[simp] theorem enableGate_configured (s : State) : (s.enableGate).configured = s.configured := rfl
@[simp] theorem enableGate_fault (s : State) : (s.enableGate).fault = s.fault := rfl
@[simp] theorem enableGate_phase (s : State) : (s.enableGate).phase = s.phase := rfl
@[simp] theorem enableGate_dly (s : State) : (s.enableGate).dly = s.dly := rfl
@[simp] theorem enableGate_pwmHeld (s : State) : (s.enableGate).pwmHeld = s.pwmHeld := rfl
@[simp] theorem enableGate_trace (s : State) : (s.enableGate).trace = s.trace := rfl
@[simp] theorem enableGate_inputs (s : State) : (s.enableGate).inputs = s.inputs := rfl
@[simp] theorem enableGate_envCount (s : State) : (s.enableGate).envCount = s.envCount := rfl

@[simp] theorem maintenance_mode (s : State) : (s.maintenance).mode = s.mode := rfl
@[simp] theorem maintenance_speed (s : State) : (s.maintenance).speed = s.speed := rfl
@[simp] theorem maintenance_duty (s : State) : (s.maintenance).duty = s.duty := rfl
@[simp] theorem maintenance_target (s : State) : (s.maintenance).target = s.target := rfl
@[simp] theorem maintenance_pend (s : State) : (s.maintenance).pend = s.pend := rfl
@[simp] theorem maintenance_tickCnt (s : State) : (s.maintenance).tickCnt = 0#16 := rfl
@[simp] theorem maintenance_tickLimit (s : State) : (s.maintenance).tickLimit = s.tickLimit := rfl
@[simp] theorem maintenance_prescSel (s : State) : (s.maintenance).prescSel = s.prescSel := rfl
@[simp] theorem maintenance_gate (s : State) : (s.maintenance).gate = true := rfl
@[simp] theorem maintenance_configured (s : State) : (s.maintenance).configured = s.configured := rfl
@[simp] theorem maintenance_fault (s : State) : (s.maintenance).fault = s.fault := rfl
@[simp] theorem maintenance_phase (s : State) : (s.maintenance).phase = s.phase := rfl
@[simp] theorem maintenance_dly (s : State) : (s.maintenance).dly = s.dly := rfl
@[simp] theorem maintenance_pwmHeld (s : State) : (s.maintenance).pwmHeld = s.pwmHeld := rfl
@[simp] theorem maintenance_trace (s : State) : (s.maintenance).trace = s.trace ++ [.maint] := rfl
@[simp] theorem maintenance_inputs (s : State) : (s.maintenance).inputs = s.inputs := rfl
@[simp] theorem maintenance_envCount (s : State) : (s.maintenance).envCount = s.envCount := rfl

@[simp] theorem disableGate_mode (s : State) : (s.disableGate).mode = s.mode := rfl
@[simp] theorem disableGate_speed (s : State) : (s.disableGate).speed = s.speed := rfl
@[simp] theorem disableGate_duty (s : State) : (s.disableGate).duty = s.duty := rfl
@[simp] theorem disableGate_target (s : State) : (s.disableGate).target = s.target := rfl
@[simp] theorem disableGate_pend (s : State) : (s.disableGate).pend = s.pend := rfl
@[simp] theorem disableGate_tickCnt (s : State) : (s.disableGate).tickCnt = s.tickCnt := rfl
@[simp] theorem disableGate_tickLimit (s : State) : (s.disableGate).tickLimit = s.tickLimit := rfl
@[simp] theorem disableGate_prescSel (s : State) : (s.disableGate).prescSel = s.prescSel := rfl
@[simp] theorem disableGate_gate (s : State) : (s.disableGate).gate = false := rfl
@[simp] theorem disableGate_configured (s : State) : (s.disableGate).configured = s.configured := rfl
@[simp] theorem disableGate_fault (s : State) : (s.disableGate).fault = s.fault := rfl
@[simp] theorem disableGate_phase (s : State) : (s.disableGate).phase = s.phase := rfl
@[simp] theorem disableGate_dly (s : State) : (s.disableGate).dly = s.dly := rfl
@[simp] theorem disableGate_pwmHeld (s : State) : (s.disableGate).pwmHeld = s.pwmHeld := rfl
@[simp] theorem disableGate_trace (s : State) : (s.disableGate).trace = s.trace := rfl
@[simp] theorem disableGate_inputs (s : State) : (s.disableGate).inputs = s.inputs := rfl
@[simp] theorem disableGate_envCount (s : State) : (s.disableGate).envCount = s.envCount := rfl

@[simp] theorem returnToIdle_mode (s : State) : (s.returnToIdle).mode = s.mode := rfl
@[simp] theorem returnToIdle_speed (s : State) : (s.returnToIdle).speed = s.speed := rfl
@[simp] theorem returnToIdle_duty (s : State) : (s.returnToIdle).duty = s.duty := rfl
@[simp] theorem returnToIdle_target (s : State) : (s.returnToIdle).target = s.target := rfl
@[simp] theorem returnToIdle_pend (s : State) : (s.returnToIdle).pend = s.pend := rfl
@[simp] theorem returnToIdle_tickCnt (s : State) : (s.returnToIdle).tickCnt = s.tickCnt := rfl
@[simp] theorem returnToIdle_tickLimit (s : State) : (s.returnToIdle).tickLimit = s.tickLimit := rfl
@[simp] theorem returnToIdle_prescSel (s : State) : (s.returnToIdle).prescSel = s.prescSel := rfl
@[simp] theorem returnToIdle_gate (s : State) : (s.returnToIdle).gate = s.gate := rfl
@[simp] theorem returnToIdle_configured (s : State) : (s.returnToIdle).configured = s.configured := rfl
@[simp] theorem returnToIdle_fault (s : State) : (s.returnToIdle).fault = s.fault := rfl
@[simp] theorem returnToIdle_phase (s : State) : (s.returnToIdle).phase = .idle := rfl
@[simp] theorem returnToIdle_dly (s : State) : (s.returnToIdle).dly = s.dly := rfl
@[simp] theorem returnToIdle_pwmHeld (s : State) : (s.returnToIdle).pwmHeld = s.pwmHeld := rfl
@[simp] theorem returnToIdle_trace (s : State) : (s.returnToIdle).trace = s.trace := rfl
@[simp] theorem returnToIdle_inputs (s : State) : (s.returnToIdle).inputs = s.inputs := rfl
@[simp] theorem returnToIdle_envCount (s : State) : (s.returnToIdle).envCount = s.envCount := rfl

@[simp] theorem rampTo_mode (v : Duty) (s : State) : (s.rampTo v).mode = s.mode := rfl
@[simp] theorem rampTo_speed (v : Duty) (s : State) : (s.rampTo v).speed = s.speed := rfl
@[simp] theorem rampTo_duty (v : Duty) (s : State) : (s.rampTo v).duty = v := rfl
@[simp] theorem rampTo_target (v : Duty) (s : State) : (s.rampTo v).target = s.target := rfl
@[simp] theorem rampTo_pend (v : Duty) (s : State) : (s.rampTo v).pend = s.pend := rfl
@[simp] theorem rampTo_tickCnt (v : Duty) (s : State) : (s.rampTo v).tickCnt = s.tickCnt := rfl
@[simp] theorem rampTo_tickLimit (v : Duty) (s : State) : (s.rampTo v).tickLimit = s.tickLimit := rfl
@[simp] theorem rampTo_prescSel (v : Duty) (s : State) : (s.rampTo v).prescSel = s.prescSel := rfl
@[simp] theorem rampTo_gate (v : Duty) (s : State) : (s.rampTo v).gate = s.gate := rfl
@[simp] theorem rampTo_configured (v : Duty) (s : State) : (s.rampTo v).configured = s.configured := rfl
@[simp] theorem rampTo_fault (v : Duty) (s : State) : (s.rampTo v).fault = s.fault := rfl
@[simp] theorem rampTo_phase (v : Duty) (s : State) : (s.rampTo v).phase = s.phase := rfl
@[simp] theorem rampTo_dly (v : Duty) (s : State) : (s.rampTo v).dly = Config.rampStepDelay := rfl
@[simp] theorem rampTo_pwmHeld (v : Duty) (s : State) : (s.rampTo v).pwmHeld = some v := rfl
@[simp] theorem rampTo_trace (v : Duty) (s : State) : (s.rampTo v).trace = s.trace ++ [.pwm v] := rfl
@[simp] theorem rampTo_inputs (v : Duty) (s : State) : (s.rampTo v).inputs = s.inputs := rfl
@[simp] theorem rampTo_envCount (v : Duty) (s : State) : (s.rampTo v).envCount = s.envCount := rfl

@[simp] theorem retire_mode (s : State) : (s.retire).mode = s.mode := rfl
@[simp] theorem retire_speed (s : State) : (s.retire).speed = s.speed := rfl
@[simp] theorem retire_duty (s : State) : (s.retire).duty = s.duty := rfl
@[simp] theorem retire_target (s : State) : (s.retire).target = s.target := rfl
@[simp] theorem retire_pend (s : State) : (s.retire).pend = s.pend := rfl
@[simp] theorem retire_tickCnt (s : State) : (s.retire).tickCnt = s.tickCnt := rfl
@[simp] theorem retire_tickLimit (s : State) : (s.retire).tickLimit = s.tickLimit := rfl
@[simp] theorem retire_prescSel (s : State) : (s.retire).prescSel = s.prescSel := rfl
@[simp] theorem retire_gate (s : State) : (s.retire).gate = s.gate := rfl
@[simp] theorem retire_configured (s : State) : (s.retire).configured = s.configured := rfl
@[simp] theorem retire_fault (s : State) : (s.retire).fault = s.fault := rfl
@[simp] theorem retire_phase (s : State) : (s.retire).phase = s.phase := rfl
@[simp] theorem retire_dly (s : State) : (s.retire).dly = s.dly := rfl
@[simp] theorem retire_pwmHeld (s : State) : (s.retire).pwmHeld = s.pwmHeld := rfl
@[simp] theorem retire_trace (s : State) : (s.retire).trace = s.trace := rfl
@[simp] theorem retire_inputs (s : State) : (s.retire).inputs = s.inputs.tail := rfl
@[simp] theorem retire_envCount (s : State) : (s.retire).envCount = s.envCount := rfl

@[simp] theorem feed_mode (x : Stimulus) (s : State) : (s.feed x).mode = s.mode := rfl
@[simp] theorem feed_speed (x : Stimulus) (s : State) : (s.feed x).speed = s.speed := rfl
@[simp] theorem feed_duty (x : Stimulus) (s : State) : (s.feed x).duty = s.duty := rfl
@[simp] theorem feed_target (x : Stimulus) (s : State) : (s.feed x).target = s.target := rfl
@[simp] theorem feed_pend (x : Stimulus) (s : State) : (s.feed x).pend = s.pend := rfl
@[simp] theorem feed_tickCnt (x : Stimulus) (s : State) : (s.feed x).tickCnt = s.tickCnt := rfl
@[simp] theorem feed_tickLimit (x : Stimulus) (s : State) : (s.feed x).tickLimit = s.tickLimit := rfl
@[simp] theorem feed_prescSel (x : Stimulus) (s : State) : (s.feed x).prescSel = s.prescSel := rfl
@[simp] theorem feed_gate (x : Stimulus) (s : State) : (s.feed x).gate = s.gate := rfl
@[simp] theorem feed_configured (x : Stimulus) (s : State) : (s.feed x).configured = s.configured := rfl
@[simp] theorem feed_fault (x : Stimulus) (s : State) : (s.feed x).fault = s.fault := rfl
@[simp] theorem feed_phase (x : Stimulus) (s : State) : (s.feed x).phase = s.phase := rfl
@[simp] theorem feed_dly (x : Stimulus) (s : State) : (s.feed x).dly = s.dly := rfl
@[simp] theorem feed_pwmHeld (x : Stimulus) (s : State) : (s.feed x).pwmHeld = s.pwmHeld := rfl
@[simp] theorem feed_trace (x : Stimulus) (s : State) : (s.feed x).trace = s.trace := rfl
@[simp] theorem feed_inputs (x : Stimulus) (s : State) : (s.feed x).inputs = x :: s.inputs := rfl
@[simp] theorem feed_envCount (x : Stimulus) (s : State) : (s.feed x).envCount = s.envCount := rfl

@[simp] theorem resetStep_mode (s : State) : s.resetStep.mode = .eco := rfl
@[simp] theorem resetStep_speed (s : State) : s.resetStep.speed = 1#3 := rfl
@[simp] theorem resetStep_duty (s : State) : s.resetStep.duty = 20#7 := rfl
@[simp] theorem resetStep_target (s : State) : s.resetStep.target = 0#7 := rfl
@[simp] theorem resetStep_pend (s : State) : s.resetStep.pend = 1#3 := rfl
@[simp] theorem resetStep_tickCnt (s : State) : s.resetStep.tickCnt = 0#16 := rfl
@[simp] theorem resetStep_tickLimit (s : State) : s.resetStep.tickLimit = 0#16 := rfl
@[simp] theorem resetStep_prescSel (s : State) : s.resetStep.prescSel = 0#8 := rfl
@[simp] theorem resetStep_gate (s : State) : s.resetStep.gate = true := rfl
@[simp] theorem resetStep_configured (s : State) : s.resetStep.configured = false := rfl
@[simp] theorem resetStep_fault (s : State) : s.resetStep.fault = false := rfl
@[simp] theorem resetStep_phase (s : State) : s.resetStep.phase = .idle := rfl
@[simp] theorem resetStep_dly (s : State) : s.resetStep.dly = 0 := rfl
@[simp] theorem resetStep_pwmHeld (s : State) : s.resetStep.pwmHeld = s.pwmHeld := rfl
@[simp] theorem resetStep_trace (s : State) : s.resetStep.trace = [] := rfl
@[simp] theorem resetStep_inputs (s : State) : s.resetStep.inputs = s.inputs := rfl
@[simp] theorem resetStep_envCount (s : State) : s.resetStep.envCount = s.envCount := rfl

end Sys2Proof.Machine
end

