-- ==== Sys2Proof/Laws/Ops.lean ====
section
/-! SUPPORT. What each shared operation can do, said once, for the proofs to cite instead of unfolding it. -/

namespace Sys2Proof.Machine

theorem running_iff (s : State) : s.running = true ↔ s.configured = true ∧ s.fault = false := by
  simp [State.running]

theorem accepting_iff (s : State) :
    s.accepting = true ↔ s.running = true ∧ s.phase = .idle ∧ s.dly = 0 ∧ s.gate = true := by
  simp [State.accepting, State.running, and_assoc]

theorem busy_iff (s : State) : s.busy = true ↔ s.phase ≠ .idle ∨ s.dly ≠ 0 := by
  simp [State.busy]

theorem not_busy_iff (s : State) : s.busy = false ↔ s.phase = .idle ∧ s.dly = 0 := by
  simp [State.busy]

/-- The table is defined exactly on the levels 1 to 5. -/
theorem dutyTable_some_iff (n : Nat) (t : Duty) :
    dutyTable n = some t ↔
      (n = 1 ∧ t = 20#7) ∨ (n = 2 ∧ t = 25#7) ∨ (n = 3 ∧ t = 30#7) ∨ (n = 4 ∧ t = 40#7) ∨ (n = 5 ∧ t = 50#7) := by
  unfold dutyTable
  split <;> simp_all [eq_comm]

theorem dutyTable_none_iff (n : Nat) : dutyTable n = none ↔ ¬(1 ≤ n ∧ n ≤ 5) := by
  unfold dutyTable
  split
  case h_6 h1 h2 h3 h4 h5 =>
    simp only [true_iff]
    rintro ⟨hl, hu⟩
    have : n = 1 ∨ n = 2 ∨ n = 3 ∨ n = 4 ∨ n = 5 := by omega
    tauto
  all_goals simp

/-- A digit with a table entry is a level: the level register holds it exactly. -/
theorem levelOf_toNat {n : KeyCode} {t : Duty} (h : dutyTable (digit n) = some t) : (levelOf n).toNat = digit n := by
  have := (dutyTable_some_iff _ _).mp h
  simp only [levelOf, BitVec.toNat_ofNat]
  omega

/-- A level's table value and the level determine each other within 1 to 5: the table is strictly increasing. -/
theorem dutyTable_bound {n : Nat} {t : Duty} (h : dutyTable n = some t) : 20 ≤ t.toNat ∧ t.toNat ≤ 50 := by
  rcases (dutyTable_some_iff _ _).mp h with h | h | h | h | h <;> simp [h.2]

/-- One unit up where the target is higher, never past it. -/
theorem towards_of_lt {a b : Duty} (h : a.toNat < b.toNat) : (towards a b).toNat = a.toNat + 1 := by
  have hlt : a < b := by simpa [BitVec.lt_def] using h
  simp only [towards, hlt, if_true]
  have := b.isLt
  rw [BitVec.toNat_add]
  simp
  omega

/-- One unit down where the target is lower, never past it. -/
theorem towards_of_gt {a b : Duty} (h : b.toNat < a.toNat) : (towards a b).toNat = a.toNat - 1 := by
  have hlt : ¬a < b := by simp [BitVec.lt_def]; omega
  simp only [towards, hlt, if_false]
  rw [BitVec.toNat_sub]
  have := a.isLt
  simp
  omega

/-- A unit step brings the distance down by exactly one (R127). -/
theorem towards_distance {a b : Duty} (h : a ≠ b) : dutyDistance b (towards a b) + 1 = dutyDistance b a := by
  have hne : a.toNat ≠ b.toNat := fun e => h (BitVec.eq_of_toNat_eq e)
  unfold dutyDistance
  rcases Nat.lt_or_gt_of_ne hne with hl | hg
  · rw [towards_of_lt hl]; omega
  · rw [towards_of_gt hg]; omega

theorem duty_pred_toNat {a : Duty} (h : a ≠ 0#7) : (a - 1#7).toNat = a.toNat - 1 := by
  have hne : a.toNat ≠ 0 := fun e => h (BitVec.eq_of_toNat_eq (by simpa using e))
  rw [BitVec.toNat_sub]
  have := a.isLt
  simp
  omega

theorem requestSpeed_far {n : KeyCode} {s : State} (h : 1 < levelDistance (digit n) s.speed) :
    s.requestSpeed n = s.raise .badShift := by
  simp [State.requestSpeed, h]

theorem requestSpeed_none {n : KeyCode} {s : State} (h : levelDistance (digit n) s.speed ≤ 1)
    (ht : dutyTable (digit n) = none) : s.requestSpeed n = s.raise (.invalidDigit n) := by
  simp [State.requestSpeed, Nat.not_lt.mpr h, ht]

theorem requestSpeed_some {n : KeyCode} {s : State} {t : Duty} (h : levelDistance (digit n) s.speed ≤ 1)
    (ht : dutyTable (digit n) = some t) : s.requestSpeed n = s.acceptSpeed (levelOf n) t := by
  simp [State.requestSpeed, Nat.not_lt.mpr h, ht]

/-- The three outcomes of SET_SPEED (R104). -/
theorem requestSpeed_cases (n : KeyCode) (s : State) :
    (1 < levelDistance (digit n) s.speed ∧ s.requestSpeed n = s.raise .badShift) ∨
    (levelDistance (digit n) s.speed ≤ 1 ∧ dutyTable (digit n) = none ∧
      s.requestSpeed n = s.raise (.invalidDigit n)) ∨
    (levelDistance (digit n) s.speed ≤ 1 ∧ ∃ t, dutyTable (digit n) = some t ∧
      s.requestSpeed n = s.acceptSpeed (levelOf n) t) := by
  rcases Nat.lt_or_ge 1 (levelDistance (digit n) s.speed) with h | h
  · exact .inl ⟨h, requestSpeed_far h⟩
  · cases ht : dutyTable (digit n) with
    | none => exact .inr (.inl ⟨h, rfl, requestSpeed_none h ht⟩)
    | some t => exact .inr (.inr ⟨h, t, rfl, requestSpeed_some h ht⟩)

theorem acceptSpeed_sport {s : State} (h : s.mode = .sport) (n : Level) (t : Duty) :
    s.acceptSpeed n t = { (s.dispWrite .clearProc).driveDuty t with speed := n } := by
  simp [State.acceptSpeed, h]

theorem acceptSpeed_eco {s : State} (h : s.mode = .eco) (n : Level) (t : Duty) :
    s.acceptSpeed n t = { s.dispWrite .clearProc with target := t, pend := n, phase := .ramp } := by
  simp [State.acceptSpeed, h]

theorem countTick_at_limit {s : State} (h : s.tickCnt.toNat + 1 = s.tickLimit.toNat) :
    s.countTick = s.maintenance := by
  simp only [State.countTick, h, if_true]
  rfl

theorem countTick_below_limit {s : State} (h : s.tickCnt.toNat + 1 ≠ s.tickLimit.toNat) :
    s.countTick = { s with tickCnt := BitVec.ofNat 16 (s.tickCnt.toNat + 1) } := by
  simp [State.countTick, h]

end Sys2Proof.Machine
end

