-- ==== Sys2Proof/Laws/PerInstr.lean ====
section
/-! SUPPORT. Statements about every operation as syntax: a well-formed operation's encoding is a word its own row of the
table selects, (code AND mask) = match, and that row is among the rows of the word's format (30_encoding R72). -/

namespace Sys2Proof.Laws.InItsRow

def Statement (i : Instr) : Prop :=
  i.wf = true → i.row.selects (encode i).code = true ∧ i.row ∈ rowsFor (encode i)

theorem configure (sel : Selector) (lim : TickCount) : Statement (.configure sel lim) :=
  fun _ => ⟨by simp [TableRow.selects, Instr.row, configureRow], by simp [rowsFor, encode, Instr.row]⟩

theorem tick : Statement .tick := fun _ => by decide

theorem nokey : Statement .nokey := fun _ => by decide

theorem setSpeed (n : KeyCode) : Statement (.setSpeed n) := by
  unfold Statement; revert n; decide

theorem setSpeedHigh (n : KeyCode) : Statement (.setSpeedHigh n) := by
  unfold Statement; revert n; decide

theorem selectEco : Statement .selectEco := fun _ => by decide

theorem selectSport : Statement .selectSport := fun _ => by decide

theorem stop : Statement .stop := fun _ => by decide

theorem start : Statement .start := fun _ => by decide

theorem unrecognized (c : KeyCode) : Statement (.unrecognized c) := by
  unfold Statement; revert c; decide

theorem rampStep : Statement .rampStep := fun _ => by decide

theorem stopStep : Statement .stopStep := fun _ => by decide

theorem penaltyExit : Statement .penaltyExit := fun _ => by decide

theorem dlyHold (p : BitVec 2) : Statement (.dlyHold p) := by
  unfold Statement; revert p; decide

theorem keypoll : Statement .keypoll := fun _ => by decide

end Sys2Proof.Laws.InItsRow
end

