-- ==== Sys2Proof/Laws/Ports.lean ====
section
/-! SUPPORT. What the event ports show of a list of events (20_memory R42): one law for each strobe, from any ports, so
that no later proof runs the fold. -/

namespace Sys2Proof.Machine

/-- The event ports are the events shown one after the other; a proof about one cycle's events starts here. -/
theorem eventPorts_foldl (events : List Event) : eventPorts events = events.foldl EventPorts.show EventPorts.quiet := rfl

theorem foldl_show_tickAck (events : List Event) (p : EventPorts) :
    (events.foldl EventPorts.show p).tickAck = true ↔ p.tickAck = true ∨ .ack ∈ events := by
  induction events generalizing p with
  | nil => simp
  | cons e events ih => cases e <;> simp [ih, EventPorts.show]

theorem foldl_show_maint (events : List Event) (p : EventPorts) :
    (events.foldl EventPorts.show p).maint = true ↔ p.maint = true ∨ .maint ∈ events := by
  induction events generalizing p with
  | nil => simp
  | cons e events ih => cases e <;> simp [ih, EventPorts.show]

theorem foldl_show_pwmWe (events : List Event) (p : EventPorts) :
    (events.foldl EventPorts.show p).pwmWe = true ↔ p.pwmWe = true ∨ ∃ v, .pwm v ∈ events := by
  induction events generalizing p with
  | nil => simp
  | cons e events ih => cases e <;> simp [ih, EventPorts.show]

theorem foldl_show_dispValid (events : List Event) (p : EventPorts) :
    (events.foldl EventPorts.show p).dispValid = true ↔ p.dispValid = true ∨ ∃ code, .disp code ∈ events := by
  induction events generalizing p with
  | nil => simp
  | cons e events ih => cases e <;> simp [ih, EventPorts.show]

theorem foldl_show_logValid (events : List Event) (p : EventPorts) :
    (events.foldl EventPorts.show p).logValid = true ↔ p.logValid = true ∨ ∃ code arg, .log code arg ∈ events := by
  induction events generalizing p with
  | nil => simp
  | cons e events ih => cases e <;> simp [ih, EventPorts.show, exists_or]

/-- Without a PWM event the PWM payload stays what it was. -/
theorem foldl_show_pwmDuty {events : List Event} (h : ∀ v, .pwm v ∉ events) (p : EventPorts) :
    (events.foldl EventPorts.show p).pwmDuty = p.pwmDuty := by
  induction events generalizing p with
  | nil => rfl
  | cons e events ih =>
    rw [List.foldl_cons, ih fun v hv => h v (List.mem_cons_of_mem _ hv)]
    cases e with
    | pwm v => exact absurd List.mem_cons_self (h v)
    | disp _ | log _ _ | ack | maint => rfl

/-- Without a display event the display payload stays what it was. -/
theorem foldl_show_dispCode {events : List Event} (h : ∀ code, .disp code ∉ events) (p : EventPorts) :
    (events.foldl EventPorts.show p).dispCode = p.dispCode := by
  induction events generalizing p with
  | nil => rfl
  | cons e events ih =>
    rw [List.foldl_cons, ih fun code hc => h code (List.mem_cons_of_mem _ hc)]
    cases e with
    | disp code => exact absurd List.mem_cons_self (h code)
    | pwm _ | log _ _ | ack | maint => rfl

/-- Without a diagnostic event the diagnostic payload stays what it was. -/
theorem foldl_show_log {events : List Event} (h : ∀ code arg, .log code arg ∉ events) (p : EventPorts) :
    (events.foldl EventPorts.show p).logCode = p.logCode ∧ (events.foldl EventPorts.show p).logArg = p.logArg := by
  induction events generalizing p with
  | nil => exact ⟨rfl, rfl⟩
  | cons e events ih =>
    rw [List.foldl_cons]
    have e' := ih (fun code arg hc => h code arg (List.mem_cons_of_mem _ hc)) (p.show e)
    rw [e'.1, e'.2]
    cases e with
    | log code arg => exact absurd List.mem_cons_self (h code arg)
    | pwm _ | disp _ | ack | maint => exact ⟨rfl, rfl⟩

end Sys2Proof.Machine
end

