-- ==== Sys2Proof/Laws/Step.lean ====
section
/-! SUPPORT. What one step can do, said once: the next state as a plain function of the stimulus that arrives. -/

namespace Sys2Proof.Machine

/-- The next state of a command's handler. -/
def commandState (cmd : Command) (s : State) : State :=
  match cmd with
  | .setSpeed n => s.requestSpeed n
  | .setSpeedHigh n => s.requestSpeed n
  | .selectEco => { s with mode := .eco }.dispWrite .modeEco
  | .selectSport => { s with mode := .sport }.dispWrite .modeSport
  | .stop => { s with target := 0#7, phase := .stopRamp }
  | .start => { s.driveDuty baseDuty with speed := baseLevel }
  | .unrecognized c => s.raise (.unrecognizedCommand c)

theorem handleCommand_eq (cmd : Command) (s : State) : handleCommand cmd s = .next (commandState cmd s) := by
  cases cmd <;> rfl

theorem exec_command (cmd : Command) (s : State) : exec cmd.instr s = handleCommand cmd s := by
  cases cmd <;> rfl

/-- The next state of a poll that presents this key. -/
def pollState (key : Option KeyCode) (s : State) : State :=
  match s.gate, key with
  | true, some c => commandState (decodeCommand c) s.disableGate
  | true, none => s
  | false, _ => s

/-- The next state of the operation PHASE selects. -/
def phaseState (key : Option KeyCode) (s : State) : State :=
  match s.phase with
  | .idle => pollState key s
  | .ramp =>
    if s.duty ≠ s.target then s.rampTo (towards s.duty s.target)
    else { s with speed := s.pend, duty := s.target, phase := .idle }
  | .stopRamp =>
    if s.duty ≠ 0#7 then s.rampTo (s.duty - 1#7)
    else { (s.driveDuty 0#7).dispWrite .stopped with speed := baseLevel, phase := .idle }
  | .penalty => s.returnToIdle

/-- The next state of a sequencer step. -/
def sequencerState (key : Option KeyCode) (s : State) : State :=
  if s.running then if s.dly ≠ 0 then { s with dly := s.dly - 1 } else phaseState key s else s

/-- The next state of a configure step. -/
def configureState (w : ConfigWord) (s : State) : State :=
  if s.configured || s.fault then s
  else if configLimit w = 0#16 then s.raise .fatalMisconfiguration
  else { s with prescSel := configSelector w, tickLimit := configLimit w, configured := true }

/-- The next state of a step in which this stimulus arrives. -/
def stimulusState (x : Stimulus) (s : State) : State :=
  match x with
  | .reset => s.resetStep
  | .configure w => configureState w s
  | .tick => if s.running then s.tickAck.countTick else s
  | .sequencer key => sequencerState key s

/-- The codes of the command rows, by number (R61). -/
theorem decodeCommand_cases (c : KeyCode) :
    (c.toNat ≤ 9 ∧ (decodeCommand c = .setSpeed c ∨ decodeCommand c = .setSpeedHigh c)) ∨
    (c = 0xA#4 ∧ decodeCommand c = .selectEco) ∨ (c = 0xB#4 ∧ decodeCommand c = .selectSport) ∨
    (c = 0xC#4 ∧ decodeCommand c = .stop) ∨ (c = 0xD#4 ∧ decodeCommand c = .start) ∨
    (14 ≤ c.toNat ∧ decodeCommand c = .unrecognized c) := by
  revert c; decide

/-- Everything the command of a key can do, guards included: a Bad Shift, an invalid digit, a Sport snap, the start of an
Eco ramp, a mode select, the start of a stop, START, and an unrecognised code (R93, R100 to R108). -/
theorem commandState_cases (c : KeyCode) (s : State) :
    (c.toNat ≤ 9 ∧ 1 < levelDistance (digit c) s.speed ∧ commandState (decodeCommand c) s =
      { s with trace := s.trace ++ [.disp .badShift], dly := Config.badShiftDelay, phase := .penalty }) ∨
    (c.toNat ≤ 9 ∧ levelDistance (digit c) s.speed ≤ 1 ∧ dutyTable (digit c) = none ∧
      commandState (decodeCommand c) s = { s with trace := s.trace ++ [.log .invalidDigit c] }) ∨
    (c.toNat ≤ 9 ∧ levelDistance (digit c) s.speed ≤ 1 ∧ s.mode = .sport ∧ ∃ t, dutyTable (digit c) = some t ∧
      commandState (decodeCommand c) s =
        { s with
          trace := s.trace ++ [.disp .clearProc, .pwm t], duty := t, pwmHeld := some t, speed := levelOf c }) ∨
    (c.toNat ≤ 9 ∧ levelDistance (digit c) s.speed ≤ 1 ∧ s.mode = .eco ∧ ∃ t, dutyTable (digit c) = some t ∧
      commandState (decodeCommand c) s =
        { s with trace := s.trace ++ [.disp .clearProc], target := t, pend := levelOf c, phase := .ramp }) ∨
    (c = 0xA#4 ∧ commandState (decodeCommand c) s =
      { s with mode := .eco, trace := s.trace ++ [.disp .modeEco] }) ∨
    (c = 0xB#4 ∧ commandState (decodeCommand c) s =
      { s with mode := .sport, trace := s.trace ++ [.disp .modeSport] }) ∨
    (c = 0xC#4 ∧ commandState (decodeCommand c) s = { s with target := 0#7, phase := .stopRamp }) ∨
    (c = 0xD#4 ∧ commandState (decodeCommand c) s =
      { s with duty := 20#7, speed := 1#3, trace := s.trace ++ [.pwm 20#7], pwmHeld := some 20#7 }) ∨
    (14 ≤ c.toNat ∧ commandState (decodeCommand c) s =
      { s with trace := s.trace ++ [.log .unrecognized c] }) := by
  rcases decodeCommand_cases c with ⟨h9, hc⟩ | ⟨h, hc⟩ | ⟨h, hc⟩ | ⟨h, hc⟩ | ⟨h, hc⟩ | ⟨h, hc⟩
  · have e : commandState (decodeCommand c) s = s.requestSpeed c := by rcases hc with hc | hc <;> rw [hc] <;> rfl
    rw [e]
    rcases requestSpeed_cases c s with ⟨hd, r⟩ | ⟨hd, ht, r⟩ | ⟨hd, t, ht, r⟩
    · exact .inl ⟨h9, hd, r⟩
    · exact .inr (.inl ⟨h9, hd, ht, r⟩)
    · cases hm : s.mode with
      | sport =>
        refine .inr (.inr (.inl ⟨h9, hd, rfl, t, ht, ?_⟩))
        rw [r, acceptSpeed_sport hm]
        simp [State.driveDuty, State.pwmWrite, State.dispWrite, State.emit]
        exact hm
      | eco =>
        refine .inr (.inr (.inr (.inl ⟨h9, hd, rfl, t, ht, ?_⟩)))
        rw [r, acceptSpeed_eco hm]
        simp [State.dispWrite, State.emit]
        exact hm
  all_goals rw [hc]
  · exact .inr (.inr (.inr (.inr (.inl ⟨h, rfl⟩))))
  · exact .inr (.inr (.inr (.inr (.inr (.inl ⟨h, rfl⟩)))))
  · exact .inr (.inr (.inr (.inr (.inr (.inr (.inl ⟨h, rfl⟩))))))
  · exact .inr (.inr (.inr (.inr (.inr (.inr (.inr (.inl ⟨h, rfl⟩)))))))
  · exact .inr (.inr (.inr (.inr (.inr (.inr (.inr (.inr ⟨h, rfl⟩)))))))

/-- Everything a sequencer step can do, guards included (R68, R90, R120 to R125). -/
theorem sequencerState_cases (key : Option KeyCode) (s : State) :
    (s.running = false ∧ sequencerState key s = s) ∨
    (s.running = true ∧ s.dly ≠ 0 ∧ sequencerState key s = { s with dly := s.dly - 1 }) ∨
    (s.running = true ∧ s.dly = 0 ∧ s.phase = .idle ∧ (s.gate = false ∨ key = none) ∧ sequencerState key s = s) ∨
    (s.accepting = true ∧ ∃ c, key = some c ∧
      sequencerState key s = commandState (decodeCommand c) { s with gate := false }) ∨
    (s.running = true ∧ s.dly = 0 ∧ s.phase = .ramp ∧ s.duty ≠ s.target ∧
      sequencerState key s = s.rampTo (towards s.duty s.target)) ∨
    (s.running = true ∧ s.dly = 0 ∧ s.phase = .ramp ∧ s.duty = s.target ∧
      sequencerState key s = { s with speed := s.pend, phase := .idle }) ∨
    (s.running = true ∧ s.dly = 0 ∧ s.phase = .stopRamp ∧ s.duty ≠ 0#7 ∧
      sequencerState key s = s.rampTo (s.duty - 1#7)) ∨
    (s.running = true ∧ s.dly = 0 ∧ s.phase = .stopRamp ∧ s.duty = 0#7 ∧ sequencerState key s =
      { s with
        duty := 0#7, pwmHeld := some 0#7, trace := s.trace ++ [.pwm 0#7, .disp .stopped], speed := 1#3,
        phase := .idle }) ∨
    (s.running = true ∧ s.dly = 0 ∧ s.phase = .penalty ∧ sequencerState key s = { s with phase := .idle }) := by
  cases hr : s.running with
  | false => exact .inl ⟨rfl, by simp [sequencerState, hr]⟩
  | true =>
    refine .inr ?_
    by_cases hd : s.dly = 0
    · have e : sequencerState key s = phaseState key s := by simp [sequencerState, hr, hd]
      refine .inr ?_
      rw [e]
      cases hp : s.phase with
      | idle =>
        cases hg : s.gate with
        | false => exact .inl ⟨rfl, hd, rfl, .inl rfl, by simp [phaseState, hp, pollState, hg]⟩
        | true =>
          cases key with
          | none => exact .inl ⟨rfl, hd, rfl, .inr rfl, by simp [phaseState, hp, pollState, hg]⟩
          | some c =>
            refine .inr (.inl ⟨(accepting_iff s).mpr ⟨hr, hp, hd, hg⟩, c, rfl, ?_⟩)
            simp [phaseState, hp, pollState, hg, State.disableGate]
      | ramp =>
        refine .inr (.inr ?_)
        by_cases hne : s.duty = s.target
        · refine .inr (.inl ⟨rfl, hd, rfl, hne, ?_⟩)
          simp [phaseState, hp, hne]
        · exact .inl ⟨rfl, hd, rfl, hne, by simp [phaseState, hp, hne]⟩
      | stopRamp =>
        refine .inr (.inr (.inr (.inr ?_)))
        by_cases hne : s.duty = 0#7
        · refine .inr (.inl ⟨rfl, hd, rfl, hne, ?_⟩)
          simp [phaseState, hp, hne, State.driveDuty, State.pwmWrite, State.dispWrite, State.emit, baseLevel]
        · exact .inl ⟨rfl, hd, rfl, hne, by simp [phaseState, hp, hne]⟩
      | penalty =>
        exact .inr (.inr (.inr (.inr (.inr (.inr ⟨rfl, hd, rfl, by simp [phaseState, hp, State.returnToIdle]⟩)))))
    · exact .inl ⟨rfl, hd, by simp [sequencerState, hr, hd]⟩

/-- Everything a tick step can do (R82, R83). -/
theorem tickState_cases (s : State) :
    (s.running = false ∧ stimulusState .tick s = s) ∨
    (s.running = true ∧ s.tickCnt.toNat + 1 = s.tickLimit.toNat ∧ stimulusState .tick s =
      { s with tickCnt := 0#16, gate := true, trace := s.trace ++ [.ack, .maint] }) ∨
    (s.running = true ∧ s.tickCnt.toNat + 1 ≠ s.tickLimit.toNat ∧ stimulusState .tick s =
      { s with tickCnt := BitVec.ofNat 16 (s.tickCnt.toNat + 1), trace := s.trace ++ [.ack] }) := by
  cases hr : s.running with
  | false => exact .inl ⟨rfl, by simp [stimulusState, hr]⟩
  | true =>
    refine .inr ?_
    have e : stimulusState .tick s = s.tickAck.countTick := by simp [stimulusState, hr]
    rw [e]
    by_cases h : s.tickCnt.toNat + 1 = s.tickLimit.toNat
    · refine .inl ⟨rfl, h, ?_⟩
      rw [countTick_at_limit (s := s.tickAck) h]
      simp [State.maintenance, State.enableGate, State.tickAck, State.emit]
    · refine .inr ⟨rfl, h, ?_⟩
      rw [countTick_below_limit (s := s.tickAck) h]
      simp [State.tickAck, State.emit]

/-- Everything a configure step can do (R80, R81, R84). -/
theorem configureState_cases (w : ConfigWord) (s : State) :
    ((s.configured = true ∨ s.fault = true) ∧ stimulusState (.configure w) s = s) ∨
    (s.configured = false ∧ s.fault = false ∧ configLimit w = 0#16 ∧
      stimulusState (.configure w) s = { s with fault := true }) ∨
    (s.configured = false ∧ s.fault = false ∧ configLimit w ≠ 0#16 ∧ stimulusState (.configure w) s =
      { s with prescSel := configSelector w, tickLimit := configLimit w, configured := true }) := by
  cases hc : s.configured with
  | true => exact .inl ⟨.inl rfl, by simp [stimulusState, configureState, hc]⟩
  | false =>
    cases hf : s.fault with
    | true => exact .inl ⟨.inr rfl, by simp [stimulusState, configureState, hf]⟩
    | false =>
      refine .inr ?_
      by_cases hl : configLimit w = 0#16
      · exact .inl ⟨rfl, rfl, hl, by simp [stimulusState, configureState, hc, hf, hl, State.raise]⟩
      · exact .inr ⟨rfl, rfl, hl, by simp [stimulusState, configureState, hc, hf, hl]⟩

/-- Without a reset, CONFIGURED and FAULT of a running block stay. -/
theorem running_stimulusState {x : Stimulus} {s : State} (hx : x ≠ .reset) (hr : s.running = true) :
    (stimulusState x s).configured = true ∧ (stimulusState x s).fault = false := by
  obtain ⟨hc, hf⟩ := (running_iff s).mp hr
  cases x with
  | reset => exact absurd rfl hx
  | configure w =>
    have e : stimulusState (.configure w) s = s := by simp [stimulusState, configureState, hc]
    simp [e, hc, hf]
  | tick => rcases tickState_cases s with ⟨-, e⟩ | ⟨-, -, e⟩ | ⟨-, -, e⟩ <;> rw [e] <;> exact ⟨hc, hf⟩
  | sequencer key =>
    show (sequencerState key s).configured = true ∧ (sequencerState key s).fault = false
    rcases sequencerState_cases key s with
      ⟨-, e⟩ | ⟨-, -, e⟩ | ⟨-, -, -, -, e⟩ | ⟨-, c, -, e⟩ | ⟨-, -, -, -, e⟩ | ⟨-, -, -, -, e⟩ | ⟨-, -, -, -, e⟩ |
      ⟨-, -, -, -, e⟩ | ⟨-, -, -, e⟩ <;> rw [e]
    case inr.inr.inr.inl =>
      rcases commandState_cases c { s with gate := false } with
        ⟨-, -, e⟩ | ⟨-, -, -, e⟩ | ⟨-, -, -, t, -, e⟩ | ⟨-, -, -, t, -, e⟩ | ⟨-, e⟩ | ⟨-, e⟩ | ⟨-, e⟩ | ⟨-, e⟩ | ⟨-, e⟩ <;>
        rw [e] <;> exact ⟨hc, hf⟩
    all_goals exact ⟨hc, hf⟩

@[simp] theorem present_feed (x : Stimulus) (s : State) : (s.feed x).present = s.feed x := rfl

@[simp] theorem retire_feed (x : Stimulus) (s : State) : (s.feed x).retire = s := rfl

/-- Every step is one in which some stimulus arrives: the listed one, or the environment's. -/
theorem step_eq_feed (s : State) :
    (∃ x xs, s.inputs = x :: xs ∧ step s = step ({ s with inputs := xs }.feed x)) ∨
    (s.inputs = [] ∧
      step s = step ({ s with inputs := [], envCount := s.envCount + 1 }.feed (Config.environment s.envCount))) := by
  cases h : s.inputs with
  | nil =>
    refine .inr ⟨rfl, ?_⟩
    have : s.present = { s with inputs := [], envCount := s.envCount + 1 }.feed (Config.environment s.envCount) := by
      simp [State.present, State.feed, h]
    simp only [step, this, present_feed]
  | cons x xs =>
    refine .inl ⟨x, xs, rfl, ?_⟩
    have : s = { s with inputs := xs }.feed x := by
      cases s; simp_all [State.feed]
    conv_lhs => rw [this]

theorem step_reset (s : State) : step (s.feed .reset) = .next (stimulusState .reset s) := rfl

theorem step_configure (w : ConfigWord) (s : State) :
    step (s.feed (.configure w)) = .next (stimulusState (.configure w) s) := by
  have h : step (s.feed (.configure w)) =
      mapNext State.retire (execConfigure (configSelector w) (configLimit w) (s.feed (.configure w))) := rfl
  rw [h]
  simp only [execConfigure, stimulusState, configureState, feed_configured, feed_fault]
  by_cases hb : (s.configured || s.fault) = true
  · simp only [hb, if_true]; rfl
  · by_cases hl : configLimit w = 0#16
    · simp only [hb, hl, if_true]; rfl
    · simp only [hb, hl, if_false]; rfl

theorem step_tick (s : State) : step (s.feed .tick) = .next (stimulusState .tick s) := by
  have h : step (s.feed .tick) = mapNext State.retire (execTick (s.feed .tick)) := rfl
  rw [h]
  have hr : (s.feed .tick).running = s.running := rfl
  by_cases hrun : s.running = true
  · by_cases hc : s.tickCnt.toNat + 1 = s.tickLimit.toNat
    · simp [execTick, stimulusState, hr, hrun, State.countTick, hc]; rfl
    · simp [execTick, stimulusState, hr, hrun, State.countTick, hc]; rfl
  · simp [execTick, stimulusState, hr, hrun]; rfl

/-- A command's handler does not touch the inputs. -/
theorem commandState_feed (cmd : Command) (x : Stimulus) (s : State) :
    commandState cmd (s.feed x) = (commandState cmd s).feed x := by
  have hr (n : KeyCode) : (s.feed x).requestSpeed n = (s.requestSpeed n).feed x := by
    rcases requestSpeed_cases n s with ⟨h, e⟩ | ⟨h, ht, e⟩ | ⟨h, t, ht, e⟩ <;> rw [e]
    · rw [requestSpeed_far (s := s.feed x) h]; rfl
    · rw [requestSpeed_none (s := s.feed x) h ht]; rfl
    · rw [requestSpeed_some (s := s.feed x) h ht]
      cases hm : s.mode with
      | sport => rw [acceptSpeed_sport hm, acceptSpeed_sport (s := s.feed x) hm]; rfl
      | eco => rw [acceptSpeed_eco hm, acceptSpeed_eco (s := s.feed x) hm]; rfl
  cases cmd with
  | setSpeed n => exact hr n
  | setSpeedHigh n => exact hr n
  | selectEco => rfl
  | selectSport => rfl
  | stop => rfl
  | start => rfl
  | unrecognized c => rfl

/-- KEYPOLL, with the key presented at the head of the inputs. -/
theorem execKeypoll_feed {s : State} (hr : s.running = true) (key : Option KeyCode) :
    execKeypoll (s.feed (.sequencer key)) = .next ((pollState key s).feed (.sequencer key)) := by
  have hr' : (s.feed (.sequencer key)).running = true := hr
  have hk : (s.feed (.sequencer key)).keyPoll = key := rfl
  simp only [execKeypoll, hr', hk, Bool.not_true, Bool.false_eq_true, if_false, feed_gate]
  cases hg : s.gate with
  | false => simp [pollState, hg]
  | true =>
    cases key with
    | none => simp [pollState, hg, execNokey]
    | some c =>
      simp only [Bool.not_true, Bool.false_eq_true, if_false, handleCommand_eq, pollState, hg]
      rw [← commandState_feed]
      rfl

theorem step_sequencer (key : Option KeyCode) (s : State) :
    step (s.feed (.sequencer key)) = .next (stimulusState (.sequencer key) s) := by
  have hsel : (s.feed (.sequencer key)).selectWord =
      if s.running then some (.seq s.phase.bits (s.dly != 0)) else none := rfl
  by_cases hr : s.running = true
  · by_cases hd : s.dly = 0
    · have hsel' : (s.feed (.sequencer key)).selectWord = some (.seq s.phase.bits false) := by simp [hsel, hr, hd]
      have hstep : step (s.feed (.sequencer key)) =
          mapNext State.retire (exec (decodeSequencer s.phase.bits false) (s.feed (.sequencer key))) := by
        simp only [step, present_feed, State.select]
        simp only [feed_inputs, hsel', decode]
      rw [hstep]
      have hst : stimulusState (.sequencer key) s = phaseState key s := by
        simp [stimulusState, sequencerState, hr, hd]
      rw [hst, phaseState]
      cases hp : s.phase with
      | idle =>
        have : decodeSequencer Phase.idle.bits false = .keypoll := by decide
        rw [this]
        show mapNext State.retire (execKeypoll (s.feed (.sequencer key))) = _
        rw [execKeypoll_feed hr]
        rfl
      | ramp =>
        have : decodeSequencer Phase.ramp.bits false = .rampStep := by decide
        rw [this]
        show mapNext State.retire (execRampStep (s.feed (.sequencer key))) = _
        by_cases hne : s.duty = s.target
        · simp [execRampStep, hne]; rfl
        · simp [execRampStep, hne]; rfl
      | stopRamp =>
        have : decodeSequencer Phase.stopRamp.bits false = .stopStep := by decide
        rw [this]
        show mapNext State.retire (execStopStep (s.feed (.sequencer key))) = _
        by_cases hne : s.duty = 0#7
        · simp [execStopStep, hne]; rfl
        · simp [execStopStep, hne]; rfl
      | penalty =>
        have : decodeSequencer Phase.penalty.bits false = .penaltyExit := by decide
        rw [this]
        rfl
    · have hsel' : (s.feed (.sequencer key)).selectWord = some (.seq s.phase.bits true) := by
        simp [hsel, hr, hd]
      simp only [step, present_feed, State.select]
      simp only [feed_inputs, hsel', decode, decodeSequencer, if_true]
      simp only [stimulusState, sequencerState, hr, hd, ne_eq, not_false_eq_true, if_true]
      rfl
  · have hsel' : (s.feed (.sequencer key)).selectWord = none := by simp [hsel, hr]
    simp only [step, present_feed, State.select]
    simp only [feed_inputs, hsel']
    simp only [stimulusState, sequencerState, hr]
    rfl

/-- Every step in which a stimulus arrives answers this next state. -/
theorem step_feed (x : Stimulus) (s : State) : step (s.feed x) = .next (stimulusState x s) := by
  cases x with
  | reset => exact step_reset s
  | configure w => exact step_configure w s
  | tick => exact step_tick s
  | sequencer key => exact step_sequencer key s

theorem runStimuli_nil (s : State) : runStimuli [] s = .next s := rfl

/-- The first stimulus of a run, taken. -/
theorem runStimuli_cons (x : Stimulus) (xs : List Stimulus) (s : State) :
    runStimuli (x :: xs) s = runStimuli xs (stimulusState x s) := by
  simp only [runStimuli, step_feed]

/-- A run in two parts. -/
theorem runStimuli_append {xs : List Stimulus} {s t : State} (ys : List Stimulus) (h : runStimuli xs s = .next t) :
    runStimuli (xs ++ ys) s = runStimuli ys t := by
  induction xs generalizing s with
  | nil => injection h with h; rw [← h]; rfl
  | cons x xs ih =>
    rw [runStimuli_cons] at h
    rw [List.cons_append, runStimuli_cons]
    exact ih h

/-- A run is the stimuli applied one after another. -/
theorem runStimuli_eq (xs : List Stimulus) (s : State) :
    runStimuli xs s = .next (xs.foldl (fun t x => stimulusState x t) s) := by
  induction xs generalizing s with
  | nil => rfl
  | cons x xs ih => rw [runStimuli_cons, ih, List.foldl_cons]

end Sys2Proof.Machine
end

