-- ==== Sys2Proof/Tests/Slice0.lean ====
section
/-! SUPPORT. Tests of single steps against the vectors of spec/95_test_vectors.md, the smoke tests of WellFormed, the
decoding of words written out from the encodings of spec/30_encoding.md, and a witness for the hypotheses of each
obligation. -/

namespace Sys2Proof.Tests

open Sys2Proof Sys2Proof.Machine

/-! ### Well-formedness: one ill-formed term for each check (R61, R62, R63) -/

theorem test_wf_setSpeed_refuses_0x8 : (Instr.setSpeed 0x8#4).wf = false := by decide
theorem test_wf_setSpeedHigh_refuses_0xA : (Instr.setSpeedHigh 0xA#4).wf = false := by decide
theorem test_wf_unrecognized_refuses_0xD : (Instr.unrecognized 0xD#4).wf = false := by decide
theorem test_wf_accepts_row_edges :
    (Instr.setSpeed 0x7#4).wf && (Instr.setSpeedHigh 0x9#4).wf && (Instr.unrecognized 0xF#4).wf = true := by decide

/-! ### Decoding: one word for each constructor, written from R61, R66, R68, R69 -/

theorem test_decode_configure :
    decode (.cfg 0b000000110000000000000101#24) = .ok (.configure 3#8 5#16) := by decide
theorem test_decode_tick : decode (.evt 0b1#1) = .ok .tick := by decide
theorem test_decode_no_firing : decode (.evt 0b0#1) = .error .noFiring := by decide
theorem test_decode_nokey : decode .noKey = .ok .nokey := by decide
theorem test_decode_setSpeed : decode (.key 0b0101#4) = .ok (.setSpeed 5#4) := by decide
theorem test_decode_setSpeedHigh : decode (.key 0b1000#4) = .ok (.setSpeedHigh 8#4) := by decide
theorem test_decode_selectEco : decode (.key 0b1010#4) = .ok .selectEco := by decide
theorem test_decode_selectSport : decode (.key 0b1011#4) = .ok .selectSport := by decide
theorem test_decode_stop : decode (.key 0b1100#4) = .ok .stop := by decide
theorem test_decode_start : decode (.key 0b1101#4) = .ok .start := by decide
theorem test_decode_unrecognized : decode (.key 0b1110#4) = .ok (.unrecognized 14#4) := by decide
theorem test_decode_keypoll : decode (.seq 0b00#2 false) = .ok .keypoll := by decide
theorem test_decode_rampStep : decode (.seq 0b01#2 false) = .ok .rampStep := by decide
theorem test_decode_stopStep : decode (.seq 0b10#2 false) = .ok .stopStep := by decide
theorem test_decode_penaltyExit : decode (.seq 0b11#2 false) = .ok .penaltyExit := by decide
theorem test_decode_dlyHold_before_phase : decode (.seq 0b11#2 true) = .ok (.dlyHold 3#2) := by decide
theorem test_table_word_configure : decodeTableWord 24 0x030005 = some (.configure 3#8 5#16) := by decide
theorem test_table_word_key : decodeTableWord 4 0xB = some .selectSport := by decide
theorem test_table_word_phase : decodeTableWord 2 0x2 = some .stopStep := by decide
theorem test_table_word_beyond_width : decodeTableWord 4 0x10 = none := by decide
theorem test_table_word_byte_is_a_key : decodeTableWord 8 0xC = some .stop := by decide
theorem test_raw_word_without_port : decodeRaw 7 0 = .error (.noSuchWidth 7) := by decide

/-- The codes and the text of the tables of R70 and R71. -/
theorem test_event_codes :
    [DispCode.modeEco, .modeSport, .stopped, .clearProc, .badShift].map (·.bits) = [1#3, 2#3, 3#3, 4#3, 5#3] ∧
    DispCode.badShift.text = some "Bad Shift" ∧
    [LogCode.invalidDigit, .unrecognized].map (·.bits) = [1#2, 2#2] := by decide

/-! ### Single steps -/

/-- The next state of an outcome. -/
def nextOf : Host.Outcome State Fault Refusal → Option State
  | .next s => some s
  | .fault _ => none
  | .refused _ => none

/-- A configured block, idle, with the given drive state and TICK_LIMIT = 4. -/
def idleAt (mode : DriveMode) (speed : Level) (duty : Duty) : State :=
  { State.reset with mode := mode, speed := speed, duty := duty, configured := true, tickLimit := 4#16 }

/-- The same in a phase, with a target and a pending level. -/
def inPhase (phase : Phase) (dly : Nat) (duty target : Duty) : State :=
  { idleAt .eco 1#3 duty with phase := phase, dly := dly, target := target, pend := 2#3 }

/-- The step of a stimulus. -/
def after (x : Stimulus) (s : State) : Option State := nextOf (step (s.feed x))

/-- V1. -/
theorem test_configure_accepted : after (.configure 0x030005#24) State.reset =
    some { State.reset with prescSel := 3#8, tickLimit := 5#16, configured := true } := by decide
/-- V4. -/
theorem test_configure_zero_fatal : after (.configure 0x070000#24) State.reset =
    some { State.reset with fault := true } := by decide
/-- V5. -/
theorem test_configure_ignored : after (.configure 0x010009#24) (idleAt .eco 1#3 20#7) =
    some (idleAt .eco 1#3 20#7) := by decide
/-- V12. -/
theorem test_tick_maintenance : after .tick { idleAt .eco 1#3 20#7 with tickLimit := 3#16, tickCnt := 2#16, gate := false } =
    some { idleAt .eco 1#3 20#7 with tickLimit := 3#16, tickCnt := 0#16, gate := true, trace := [.ack, .maint] } := by
  decide
/-- V15. -/
theorem test_tick_counts : after .tick { idleAt .eco 1#3 20#7 with tickLimit := 65535#16, tickCnt := 65533#16 } =
    some { idleAt .eco 1#3 20#7 with tickLimit := 65535#16, tickCnt := 65534#16, trace := [.ack] } := by decide
/-- V25. -/
theorem test_nokey_changes_nothing : after (.sequencer none) (idleAt .eco 1#3 20#7) = some (idleAt .eco 1#3 20#7) := by
  decide
/-- V26. -/
theorem test_keypoll_gate_closed : after (.sequencer (some 2#4)) { idleAt .sport 1#3 20#7 with gate := false } =
    some { idleAt .sport 1#3 20#7 with gate := false } := by decide
/-- V30: not configured, the key is not seen. -/
theorem test_keypoll_not_configured : after (.sequencer (some 0xD#4)) State.reset = some State.reset := by decide
/-- S3a. -/
theorem test_setSpeed_sport : after (.sequencer (some 4#4)) (idleAt .sport 3#3 30#7) =
    some { idleAt .sport 4#3 40#7 with gate := false, pwmHeld := some 40#7, trace := [.disp .clearProc, .pwm 40#7] } := by
  decide
/-- V65: 0 at level 1 is an invalid digit. -/
theorem test_setSpeed_invalid_digit : after (.sequencer (some 0#4)) (idleAt .eco 1#3 20#7) =
    some { idleAt .eco 1#3 20#7 with gate := false, trace := [.log .invalidDigit 0#4] } := by decide
/-- V69: DLY is BAD_SHIFT_DELAY and is left out of the comparison. -/
theorem test_setSpeedHigh_bad_shift : (after (.sequencer (some 9#4)) (idleAt .eco 5#3 50#7)).map
    (fun t => (t.phase, t.speed, t.duty, t.trace)) = some (.penalty, 5#3, 50#7, [.disp .badShift]) := by decide
/-- V41. -/
theorem test_selectEco : after (.sequencer (some 0xA#4)) (idleAt .sport 3#3 30#7) =
    some { idleAt .eco 3#3 30#7 with gate := false, trace := [.disp .modeEco] } := by decide
/-- V40. -/
theorem test_selectSport : after (.sequencer (some 0xB#4)) (idleAt .eco 3#3 30#7) =
    some { idleAt .sport 3#3 30#7 with gate := false, trace := [.disp .modeSport] } := by decide
/-- R102, the dispatch step alone. -/
theorem test_stop_dispatch : after (.sequencer (some 0xC#4)) (idleAt .sport 5#3 50#7) =
    some { idleAt .sport 5#3 50#7 with gate := false, target := 0#7, phase := .stopRamp } := by decide
/-- V47. -/
theorem test_start_from_top : after (.sequencer (some 0xD#4)) (idleAt .eco 5#3 50#7) =
    some { idleAt .eco 1#3 20#7 with gate := false, pwmHeld := some 20#7, trace := [.pwm 20#7] } := by decide
/-- V50. -/
theorem test_unrecognized : after (.sequencer (some 0xF#4)) (idleAt .eco 2#3 25#7) =
    some { idleAt .eco 2#3 25#7 with gate := false, trace := [.log .unrecognized 15#4] } := by decide
/-- V83, with a key presented and ignored (V28). -/
theorem test_rampStep_down : (after (.sequencer (some 0xC#4)) (inPhase .ramp 0 40#7 30#7)).map
    (fun t => (t.duty, t.phase, t.gate, t.trace)) = some (39#7, .ramp, true, [.pwm 39#7]) := by decide
/-- V82. -/
theorem test_rampStep_completes : after (.sequencer none) (inPhase .ramp 0 25#7 25#7) =
    some { inPhase .idle 0 25#7 25#7 with speed := 2#3 } := by decide
/-- V87: the last moving step does not complete the stop. -/
theorem test_stopStep_to_zero : (after (.sequencer none) (inPhase .stopRamp 0 1#7 0#7)).map
    (fun t => (t.duty, t.phase, t.pwmHeld, t.trace)) = some (0#7, .stopRamp, some 0#7, [.pwm 0#7]) := by decide
/-- V88. -/
theorem test_stopStep_completes : after (.sequencer none) { inPhase .stopRamp 0 0#7 0#7 with speed := 5#3 } =
    some { inPhase .idle 0 0#7 0#7 with pwmHeld := some 0#7, trace := [.pwm 0#7, .disp .stopped] } := by decide
/-- V90. -/
theorem test_penaltyExit : after (.sequencer none) (inPhase .penalty 0 20#7 0#7) = some (inPhase .idle 0 20#7 0#7) := by
  decide
/-- V91, with the key of V29. -/
theorem test_dlyHold : after (.sequencer (some 0xD#4)) (inPhase .penalty 3 20#7 0#7) =
    some (inPhase .penalty 2 20#7 0#7) := by decide
/-- V111: PWM_HELD stays, the registers are reset. -/
theorem test_reset_mid_ramp : after .reset { inPhase .ramp 0 23#7 25#7 with pwmHeld := some 23#7, trace := [.pwm 23#7] } =
    some { State.reset with pwmHeld := some 23#7 } := by decide
/-- A table word placed for the first step after reset runs. -/
theorem test_withFetchWord_start : (nextOf (step (State.reset.withFetchWord 4 0xD))).map (fun t => (t.trace, t.gate)) =
    some ([.pwm 20#7], false) := by decide
theorem test_withFetchWord_configure : nextOf (step (State.reset.withFetchWord 24 0x000001)) =
    some { State.reset with tickLimit := 1#16, configured := true } := by decide
/-- Program H: one cycle with everything at once. -/
theorem test_cycle_program_H :
    (nextOf (cycle ⟨false, true, 0x000001#24, true, true, 0xD#4⟩ State.reset)).map
      (fun t => (t.tickCnt, t.gate, t.pwmHeld, eventPorts (emittedSince State.reset t))) =
    some (0#16, false, some 20#7, ⟨true, true, true, 20#7, false, 0#3, false, 0#2, 0#4⟩) := by decide

/-! ### Witnesses: concrete states and operands that meet an obligation's hypotheses -/

/-- Mid-ramp from level 1 to level 2. -/
def ramping : State := inPhase .ramp 0 22#7 25#7

theorem ramping_meets_invariants : ramping.Inv where
  speedLegal := by decide
  pendLegal := by decide
  dutyBound := by decide
  countBelowLimit := by decide
  countUnconfigured := by decide
  settled := fun h => absurd h (by decide)
  ramping := fun _ => ⟨by decide, by decide, by decide, 20#7, .inl (by decide), .inl (by decide)⟩
  stopping := by decide
  holding := by decide
  faultUnconfigured := by decide
  targetLegal := .inr ⟨2, by decide⟩
  holdBound := Nat.zero_le _
  busyConfigured := by decide

theorem witness_ResetCycleTakesResetValues : (⟨true, true, 0#24, true, true, 2#4⟩ : PortsIn).rst = true := by decide
theorem witness_EveryStepKeepsInvariants : ramping.Inv ∧ ∃ t, step (ramping.feed .tick) = .next t :=
  ⟨ramping_meets_invariants, _, step_feed _ _⟩
theorem witness_PwmValuesInRange :
    ramping.Inv ∧ ramping.configured = true ∧ ∃ t, step (ramping.feed (.sequencer none)) = .next t :=
  ⟨ramping_meets_invariants, by decide, _, step_feed _ _⟩
theorem witness_BusyIsPhaseInInvariantStates : ramping.Inv := ramping_meets_invariants
/-- The sink before the first write and after it. -/
theorem witness_SinkHoldsDutyAfterFirstWrite :
    (idleAt .eco 1#3 20#7).pwmHeld = none ∧
    { idleAt .eco 1#3 20#7 with pwmHeld := some 20#7 }.pwmHeld = some (20#7 : Duty) ∧ Stimulus.tick ≠ .reset ∧
    ∃ t, step ((idleAt .eco 1#3 20#7).feed .tick) = .next t :=
  ⟨rfl, rfl, by decide, _, step_feed _ _⟩
theorem witness_KeyCodeMap : (7#4 : KeyCode).toNat ≤ 7 ∧ (8#4 : KeyCode).toNat = 8 ∧ (9#4 : KeyCode).toNat = 9 ∧
    (10#4 : KeyCode).toNat = 10 ∧ (11#4 : KeyCode).toNat = 11 ∧ (12#4 : KeyCode).toNat = 12 ∧
    (13#4 : KeyCode).toNat = 13 ∧ (14#4 : KeyCode).toNat = 14 ∧ (15#4 : KeyCode).toNat = 15 := by decide
theorem witness_ConfigureWordLayout : (⟨false, false, 0xFFFFFF#24, false, false, 0#4⟩ : PortsIn).cfgValid = false := by
  decide
theorem witness_DecodeOfEncode : (Instr.setSpeedHigh 9#4).wf = true := by decide
theorem witness_EncodeOfDecode : decode (.key 15#4) = .ok (.unrecognized 15#4) := by decide
theorem witness_EveryWordSelectsOneRow : decode (.seq 3#2 true) = .ok (.dlyHold 3#2) := by decide
theorem witness_StepRunsTheDecodedOperation_runs :
    ((ramping.feed (.sequencer none)).present).selectWord = some (.seq 1#2 false) ∧
    decode (.seq 1#2 false) = .ok .rampStep := by decide
theorem witness_StepRunsTheDecodedOperation_nothing :
    (State.reset.feed (.sequencer none)).selectWord = none ∧ Stimulus.sequencer none ≠ .reset := by decide
/-- One state for each line of R68. -/
theorem witness_SequencerSelection :
    State.reset.configured = false ∧ { State.reset with fault := true }.fault = true ∧
    (inPhase .ramp 1 22#7 25#7).dly ≠ 0 ∧ ramping.configured = true ∧ ramping.fault = false ∧ ramping.dly = 0 ∧
    (inPhase .idle 0 20#7 0#7).phase = .idle ∧ ramping.phase = .ramp ∧ (inPhase .stopRamp 0 1#7 0#7).phase = .stopRamp ∧
    (inPhase .penalty 0 1#7 0#7).phase = .penalty := by decide
theorem witness_ConfigureAccepted :
    State.reset.configured = false ∧ State.reset.fault = false ∧ (1#16 : TickCount) ≠ 0#16 := by decide
theorem witness_ConfigureZeroIsFatal : State.reset.configured = false ∧ State.reset.fault = false ∧
    Stimulus.tick ≠ .reset := by decide
theorem witness_ConfigureIgnored : ramping.configured = true ∧ { State.reset with fault := true }.fault = true := by
  decide
/-- At the limit and one below it. -/
theorem witness_TickCounts :
    let s := { ramping with tickCnt := 3#16 }
    let u := { ramping with tickCnt := 2#16 }
    s.configured = true ∧ s.fault = false ∧ s.tickCnt.toNat + 1 < 2 ^ 16 ∧ s.tickCnt.toNat + 1 = s.tickLimit.toNat ∧
    u.configured = true ∧ u.fault = false ∧ u.tickCnt.toNat + 1 < 2 ^ 16 ∧ u.tickCnt.toNat + 1 ≠ u.tickLimit.toNat := by
  decide
theorem witness_TickIgnored : State.reset.configured = false ∧ { State.reset with fault := true }.fault = true := by
  decide
theorem witness_MaintenanceOncePerLimit :
    ramping.configured = true ∧ ramping.fault = false ∧ ramping.tickCnt.toNat < ramping.tickLimit.toNat ∧
    (∀ x ∈ [Stimulus.tick, .sequencer none, .tick], x ≠ .reset) ∧
    ∃ t, runStimuli [.tick, .sequencer none, .tick] ramping = .next t :=
  ⟨by decide, by decide, by decide, by decide, _, runStimuli_eq _ _⟩
theorem witness_AgentsWriteTheirOwnRegisters :
    (∀ w, Stimulus.tick ≠ .configure w) ∧ (∀ key, Stimulus.tick ≠ .sequencer key) ∧ Stimulus.sequencer none ≠ .tick ∧
    Stimulus.tick ≠ .reset ∧ ∃ t, step (ramping.feed .tick) = .next t :=
  ⟨by simp, by simp, by decide, by decide, _, step_feed _ _⟩
/-- The four cases of KEYPOLL. -/
theorem witness_KeypollPollsOnlyThroughAnOpenGate :
    State.reset.configured = false ∧ { State.reset with fault := true }.fault = true ∧
    { idleAt .eco 1#3 20#7 with gate := false }.gate = false ∧ (idleAt .eco 1#3 20#7).configured = true ∧
    (idleAt .eco 1#3 20#7).fault = false ∧ (idleAt .eco 1#3 20#7).gate = true ∧ (idleAt .eco 1#3 20#7).keyPoll = none ∧
    ((idleAt .eco 1#3 20#7).feed (.sequencer (some 2#4))).keyPoll = some 2#4 := by decide
theorem witness_KeypollFrame :
    let s := (idleAt .eco 1#3 20#7).feed (.sequencer (some 2#4))
    s.running = true ∧ s.gate = true ∧ s.keyPoll.isSome = true ∧ State.reset.running = false := by decide
theorem witness_NoKeyChangesNothing : (idleAt .eco 1#3 20#7).accepting = true := by decide
/-- A gate that is closed and a gate that is open, both next to a maintenance tick. -/
theorem witness_GateWriters :
    { idleAt .eco 1#3 20#7 with gate := false, tickCnt := 3#16 }.gate = false ∧ (idleAt .eco 1#3 20#7).gate = true ∧
    Stimulus.tick ≠ .reset ∧ ∃ t, step ((idleAt .eco 1#3 20#7).feed .tick) = .next t :=
  ⟨by decide, by decide, by decide, _, step_feed _ _⟩
theorem witness_KeysUnseenUnlessAccepting : ramping.accepting = false ∧ State.reset.accepting = false := by decide
/-- One tick before the tick that opens the gate. -/
theorem witness_CooldownLastsToNextMaintenance :
    let s := { idleAt .eco 1#3 20#7 with gate := false, tickCnt := 2#16 }
    s.configured = true ∧ s.fault = false ∧ s.gate = false ∧ s.tickCnt.toNat < s.tickLimit.toNat ∧
    (∀ x ∈ [Stimulus.tick], x ≠ .reset) ∧ [Stimulus.tick].count .tick < s.tickLimit.toNat - s.tickCnt.toNat ∧
    [Stimulus.tick].count .tick + 1 = s.tickLimit.toNat - s.tickCnt.toNat := by decide
/-- The clauses at their edges: two levels off, one level off outside and inside the table, either mode. -/
theorem witness_SetSpeedRule :
    1 < (((3#4 : KeyCode).toNat : Int) - (1#3 : Level).toNat).natAbs ∧
    (((0#4 : KeyCode).toNat : Int) - (1#3 : Level).toNat).natAbs ≤ 1 ∧ ¬(1 ≤ (0#4 : KeyCode).toNat ∧ (0#4 : KeyCode).toNat ≤ 5) ∧
    (((6#4 : KeyCode).toNat : Int) - (5#3 : Level).toNat).natAbs ≤ 1 ∧ ¬(1 ≤ (6#4 : KeyCode).toNat ∧ (6#4 : KeyCode).toNat ≤ 5) ∧
    (((1#4 : KeyCode).toNat : Int) - (1#3 : Level).toNat).natAbs ≤ 1 ∧ 1 ≤ (1#4 : KeyCode).toNat ∧
    [20#7, 25#7, 30#7, 40#7, 50#7][(1#4 : KeyCode).toNat - 1]? = some (20#7 : Duty) ∧
    (((5#4 : KeyCode).toNat : Int) - (4#3 : Level).toNat).natAbs ≤ 1 ∧ 1 ≤ (5#4 : KeyCode).toNat ∧
    [20#7, 25#7, 30#7, 40#7, 50#7][(5#4 : KeyCode).toNat - 1]? = some (50#7 : Duty) ∧
    (idleAt .sport 1#3 20#7).mode = .sport ∧ (idleAt .eco 1#3 20#7).mode = .eco := by decide
theorem witness_SetSpeedOutcomeMatrix :
    Claims.entry 1 0 = some .inv ∧ Claims.entry 5 9 = some .bad ∧ Claims.entry 5 5 = some (.ok 50) ∧
    1 ≤ (5#3 : Level).toNat ∧ (5#3 : Level).toNat ≤ 5 ∧ (9#4 : KeyCode).toNat ≤ 9 :=
  ⟨rfl, rfl, rfl, by decide, by decide, by decide⟩
/-- A mode select that changes MODE, and the three ways SPEED changes. -/
theorem witness_ModeAndSpeedWriters :
    (after (.sequencer (some 0xB#4)) (idleAt .eco 1#3 20#7)).map (·.mode) = some .sport ∧
    (after (.sequencer (some 2#4)) (idleAt .sport 1#3 20#7)).map (·.speed) = some 2#3 ∧
    (after (.sequencer none) (inPhase .ramp 0 25#7 25#7)).map (·.speed) = some 2#3 ∧
    (after (.sequencer none) { inPhase .stopRamp 0 0#7 0#7 with speed := 5#3 }).map (·.speed) = some 1#3 := by decide
theorem witness_RampStepMovesOneUnit : ramping.duty ≠ ramping.target := by decide
theorem witness_RampStepCompletes : (inPhase .ramp 0 25#7 25#7).duty = (inPhase .ramp 0 25#7 25#7).target := by decide
theorem witness_StopStepMovesDown : (inPhase .stopRamp 0 1#7 0#7).duty ≠ 0#7 := by decide
theorem witness_StopStepCompletes : (inPhase .stopRamp 0 0#7 0#7).duty = 0#7 := by decide
theorem witness_HoldLastsDlySteps :
    (inPhase .penalty 2 20#7 0#7).dly ≠ 0 ∧ (inPhase .penalty 2 20#7 0#7).configured = true ∧
    (inPhase .penalty 2 20#7 0#7).fault = false ∧
    [none, some (3#4 : KeyCode)].length ≤ (inPhase .penalty 2 20#7 0#7).dly := by decide
/-- Both ramps, each moving and complete. -/
theorem witness_RampsConvergeByUnits :
    (ramping.configured = true ∧ ramping.fault = false ∧ ramping.dly = 0 ∧ ramping.phase = .ramp ∧
      ramping.duty ≠ ramping.target ∧ ramping.duty.toNat < ramping.target.toNat) ∧
    ((inPhase .stopRamp 0 1#7 0#7).phase = .stopRamp ∧ (inPhase .stopRamp 0 1#7 0#7).target = 0#7 ∧
      (inPhase .stopRamp 0 1#7 0#7).target.toNat < (inPhase .stopRamp 0 1#7 0#7).duty.toNat) ∧
    (inPhase .ramp 0 25#7 25#7).duty = (inPhase .ramp 0 25#7 25#7).target ∧
    ∃ t, step (ramping.feed (.sequencer none)) = .next t :=
  ⟨by decide, by decide, by decide, _, step_feed _ _⟩
theorem witness_BoundedSlewInRamps :
    Stimulus.sequencer none ≠ .reset ∧ ramping.phase = .ramp ∧ (inPhase .stopRamp 0 1#7 0#7).phase = .stopRamp ∧
    (after (.sequencer none) ramping).map (·.duty) = some 23#7 ∧ ramping.duty = 22#7 := by decide
/-- The three phases, with no stimulus (fewer steps than needed) and with exactly as many as needed. -/
theorem witness_CommandsTerminate :
    (ramping.configured = true ∧ ramping.fault = false ∧ ramping.phase = .ramp ∧
      (inPhase .stopRamp 0 1#7 0#7).phase = .stopRamp ∧ (inPhase .penalty 2 20#7 0#7).phase = .penalty) ∧
    (∀ n, ∀ x ∈ List.replicate n (Stimulus.sequencer none), x ≠ .reset) ∧
    (∀ n, (List.replicate n (Stimulus.sequencer none)).countP Claims.isSequencer = n) ∧
    ([] : List Stimulus).countP Claims.isSequencer < (inPhase .penalty 2 20#7 0#7).dly + 1 :=
  ⟨by decide, fun n x hx => by rw [List.eq_of_mem_replicate hx]; simp,
    fun n => by simp [List.countP_replicate, Claims.isSequencer], by decide⟩
theorem witness_EcoSpeedChange :
    (idleAt .eco 1#3 20#7).accepting = true ∧ (idleAt .eco 1#3 20#7).mode = .eco ∧
    [20#7, 25#7, 30#7, 40#7, 50#7][(2#4 : KeyCode).toNat - 1]? = some (25#7 : Duty) ∧ 1 ≤ (2#4 : KeyCode).toNat ∧
    (((2#4 : KeyCode).toNat : Int) - (idleAt .eco 1#3 20#7).speed.toNat).natAbs ≤ 1 ∧
    (List.replicate (5 * (1 + Config.rampStepDelay) + 1) (none : Option KeyCode)).length =
      (((25#7 : Duty).toNat : Int) - (idleAt .eco 1#3 20#7).duty.toNat).natAbs * (1 + Config.rampStepDelay) + 1 :=
  ⟨by decide, by decide, by decide, by decide, by decide, by rw [List.length_replicate]; rfl⟩
theorem witness_StopDrivesDutyToZero :
    (idleAt .sport 5#3 50#7).accepting = true ∧
    (List.replicate (50 * (1 + Config.rampStepDelay) + 1) (none : Option KeyCode)).length =
      (idleAt .sport 5#3 50#7).duty.toNat * (1 + Config.rampStepDelay) + 1 :=
  ⟨by decide, by rw [List.length_replicate]; rfl⟩
theorem witness_BadShiftLeavesDriveState :
    (idleAt .eco 1#3 20#7).accepting = true ∧ (3#4 : KeyCode).toNat ≤ 9 ∧
    1 < (((3#4 : KeyCode).toNat : Int) - (idleAt .eco 1#3 20#7).speed.toNat).natAbs ∧
    (List.replicate (Config.badShiftDelay + 1) (none : Option KeyCode)).length = Config.badShiftDelay + 1 :=
  ⟨by decide, by decide, by decide, List.length_replicate⟩
theorem witness_PhaseTransitions :
    (after (.sequencer (some 2#4)) (idleAt .eco 1#3 20#7)).map (·.phase) = some .ramp ∧
    (after (.sequencer (some 3#4)) (idleAt .eco 1#3 20#7)).map (·.phase) = some .penalty ∧
    (after (.sequencer (some 0xC#4)) (idleAt .eco 1#3 20#7)).map (·.phase) = some .stopRamp ∧
    (after (.sequencer none) (inPhase .penalty 0 20#7 0#7)).map (·.phase) = some .idle ∧
    Phase.ramp ≠ (idleAt .eco 1#3 20#7).phase := by decide
theorem witness_RunEndsIdle : ramping.running = true := by decide
theorem witness_DutyChangesWithAPwmWrite :
    (after (.sequencer none) ramping).map (·.duty) = some 23#7 ∧ (23#7 : Duty) ≠ ramping.duty ∧
    Stimulus.sequencer none ≠ .reset := by decide
theorem witness_FaultIsStickyAndHalts :
    { State.reset with fault := true }.fault = true ∧ State.reset.fault = false ∧
    (after (.configure 0x070000#24) State.reset).map (·.fault) = some true ∧ Stimulus.tick ≠ .reset := by decide
theorem witness_DerivedFlags : ∃ t, step ((idleAt .eco 1#3 20#7).feed (.sequencer (some 2#4))) = .next t :=
  ⟨_, step_feed _ _⟩
theorem witness_CycleOrder : (⟨false, true, 1#24, true, true, 0xD#4⟩ : PortsIn).rst = false := by decide
theorem witness_OneEventPerPort :
    ∃ t, cycle ⟨false, true, 1#24, true, true, 0xD#4⟩ State.reset = .next t := ⟨_, runStimuli_eq _ _⟩
theorem witness_MaintenanceAndKeyInOneCycle :
    let s := { idleAt .sport 1#3 20#7 with tickCnt := 3#16 }
    let p : PortsIn := ⟨false, false, 0#24, true, true, 2#4⟩
    p.rst = false ∧ p.tick = true ∧ p.keyValid = true ∧ s.configured = true ∧ s.fault = false ∧ s.phase = .idle ∧
    s.dly = 0 ∧ s.tickCnt.toNat + 1 = s.tickLimit.toNat ∧ ∃ t, cycle p s = .next t :=
  ⟨by decide, by decide, by decide, by decide, by decide, by decide, by decide, by decide, _, runStimuli_eq _ _⟩
/-- No strobe, and each event alone on its port, the highest payload among them. -/
theorem witness_PayloadsAreZeroWithoutStrobe :
    (eventPorts [.ack]).pwmWe = false ∧ (eventPorts [.ack]).dispValid = false ∧ (eventPorts [.ack]).logValid = false ∧
    Event.pwm 50#7 ∈ [Event.ack, .maint, .pwm 50#7, .disp .badShift, .log .unrecognized 15#4] ∧
    Event.disp .badShift ∈ [Event.ack, .maint, .pwm 50#7, .disp .badShift, .log .unrecognized 15#4] ∧
    Event.log .unrecognized 15#4 ∈ [Event.ack, .maint, .pwm 50#7, .disp .badShift, .log .unrecognized 15#4] ∧
    [Event.ack, .maint, .pwm 50#7, .disp .badShift, .log .unrecognized 15#4].countP Claims.isPwm ≤ 1 ∧
    [Event.ack, .maint, .pwm 50#7, .disp .badShift, .log .unrecognized 15#4].countP Claims.isDisp ≤ 1 ∧
    [Event.ack, .maint, .pwm 50#7, .disp .badShift, .log .unrecognized 15#4].countP Claims.isLog ≤ 1 := by decide
/-- A bare word of each width at the end of its range, one no port takes, and one the sequencer runs. -/
theorem witness_PlacedWordIsRun :
    portWordOf 24 0xFFFFFF = .ok (.cfg 0xFFFFFF#24) ∧ decode (.cfg 0xFFFFFF#24) = .ok (.configure 0xFF#8 0xFFFF#16) ∧
    portWordOf 4 0x10 = .error (.bitsBeyondWidth 0x10) ∧
    (2 ^ 24 - 1 < 2 ^ 24 ∧ 1 < 2 ∧ 15 < 16 ∧ 3 < 4) ∧
    (State.reset.placeWord (.seq 3#2 false)).select = .run .penaltyExit ∧ PortWord.seq 3#2 false ≠ .evt 0#1 := by decide
/-- A state for each value of MODE and PHASE, and two that agree on the ports. -/
theorem witness_StatusPortsShowTheRegisters :
    State.reset.mode = .eco ∧ (idleAt .sport 1#3 20#7).mode = .sport ∧ State.reset.phase = .idle ∧
    ramping.phase = .ramp ∧ (inPhase .stopRamp 0 1#7 0#7).phase = .stopRamp ∧
    (inPhase .penalty 0 1#7 0#7).phase = .penalty ∧
    State.reset.statusPorts = { State.reset with trace := [.ack] }.statusPorts := by decide
theorem witness_UnlistedInputsAreFree : State.reset.inputs = [] := by decide

end Sys2Proof.Tests
end

section
/-! Proofs of the statements about the state (spec 10_state): what each agent's step leaves unchanged, what a step does to
the gate, to the duty and to the drive state, and the invariants. Everything starts from `step_feed` and the case lemmas of
Laws/Step.lean. -/

namespace Sys2Proof.Machine

/-! ### Frames: what the agents leave unchanged -/

/-- From s to t nothing changed that a sequencer step may not write: the registers of the tick and configure agents and
the model's own fields are the same, and the trace has only grown (R9, R26). -/
structure State.SequencerFrame (s t : State) : Prop where
  tickCnt : t.tickCnt = s.tickCnt
  tickLimit : t.tickLimit = s.tickLimit
  prescSel : t.prescSel = s.prescSel
  configured : t.configured = s.configured
  fault : t.fault = s.fault
  inputs : t.inputs = s.inputs
  envCount : t.envCount = s.envCount
  trace : s.trace <+: t.trace

/-- From s to t nothing changed that only sequencer steps write, nor the model's own fields (R26). -/
structure State.DriveFrame (s t : State) : Prop where
  mode : t.mode = s.mode
  speed : t.speed = s.speed
  duty : t.duty = s.duty
  target : t.target = s.target
  pend : t.pend = s.pend
  phase : t.phase = s.phase
  dly : t.dly = s.dly
  pwmHeld : t.pwmHeld = s.pwmHeld
  inputs : t.inputs = s.inputs
  envCount : t.envCount = s.envCount

theorem commandState_frame (c : KeyCode) (s : State) : s.SequencerFrame (commandState (decodeCommand c) s) := by
  rcases commandState_cases c s with
    ⟨-, -, e⟩ | ⟨-, -, -, e⟩ | ⟨-, -, -, t, -, e⟩ | ⟨-, -, -, t, -, e⟩ | ⟨-, e⟩ | ⟨-, e⟩ | ⟨-, e⟩ | ⟨-, e⟩ | ⟨-, e⟩ <;>
    rw [e] <;> constructor <;> simp

theorem commandState_gate (c : KeyCode) (s : State) : (commandState (decodeCommand c) s).gate = s.gate := by
  rcases commandState_cases c s with
    ⟨-, -, e⟩ | ⟨-, -, -, e⟩ | ⟨-, -, -, t, -, e⟩ | ⟨-, -, -, t, -, e⟩ | ⟨-, e⟩ | ⟨-, e⟩ | ⟨-, e⟩ | ⟨-, e⟩ | ⟨-, e⟩ <;>
    rw [e]

theorem sequencerState_frame (key : Option KeyCode) (s : State) : s.SequencerFrame (sequencerState key s) := by
  rcases sequencerState_cases key s with
    ⟨-, e⟩ | ⟨-, -, e⟩ | ⟨-, -, -, -, e⟩ | ⟨-, c, -, e⟩ | ⟨-, -, -, -, e⟩ | ⟨-, -, -, -, e⟩ | ⟨-, -, -, -, e⟩ |
    ⟨-, -, -, -, e⟩ | ⟨-, -, -, e⟩ <;> rw [e]
  case inr.inr.inr.inl => exact { commandState_frame c { s with gate := false } with } -- a key is taken
  all_goals constructor <;> simp

/-- Only a sequencer step writes the drive state (R26). -/
theorem stimulusState_driveFrame {x : Stimulus} (hx : x ≠ .reset) (hseq : ∀ key, x ≠ .sequencer key) (s : State) :
    s.DriveFrame (stimulusState x s) := by
  cases x with
  | reset => exact absurd rfl hx
  | configure w =>
    rcases configureState_cases w s with ⟨-, e⟩ | ⟨-, -, -, e⟩ | ⟨-, -, -, e⟩ <;> rw [e] <;> constructor <;> rfl
  | tick =>
    rcases tickState_cases s with ⟨-, e⟩ | ⟨-, -, e⟩ | ⟨-, -, e⟩ <;> rw [e] <;> constructor <;> rfl
  | sequencer key => exact absurd rfl (hseq key)

/-- Settles O22, by the frames of the three agents' steps. -/
theorem agentsWriteTheirOwnRegisters : Obligations.AgentsWriteTheirOwnRegisters := by
  intro x s t hx hstep
  obtain rfl : stimulusState x s = t := by simpa [step_feed] using hstep
  cases x with
  | reset => exact absurd rfl hx
  | configure w =>
    have hd := stimulusState_driveFrame hx (by simp) s
    refine ⟨fun _ => ?_, fun h => absurd rfl (h w),
      fun _ => ⟨hd.mode, hd.speed, hd.duty, hd.target, hd.pend, hd.phase, hd.dly, hd.pwmHeld⟩, hd.inputs, hd.envCount⟩
    rcases configureState_cases w s with ⟨-, e⟩ | ⟨-, -, -, e⟩ | ⟨-, -, -, e⟩ <;> rw [e]
  | tick =>
    have hd := stimulusState_driveFrame hx (by simp) s
    refine ⟨fun h => absurd rfl h, fun _ => ?_,
      fun _ => ⟨hd.mode, hd.speed, hd.duty, hd.target, hd.pend, hd.phase, hd.dly, hd.pwmHeld⟩, hd.inputs, hd.envCount⟩
    rcases tickState_cases s with ⟨-, e⟩ | ⟨-, -, e⟩ | ⟨-, -, e⟩ <;> simp [e]
  | sequencer key =>
    have hf := sequencerState_frame key s
    exact ⟨fun _ => hf.tickCnt, fun _ => ⟨hf.tickLimit, hf.prescSel, hf.configured, hf.fault⟩,
      fun h => absurd rfl (h key), hf.inputs, hf.envCount⟩

/-! ### The gate -/

/-- KEYPOLL, in every state (R90). -/
theorem execKeypoll_eq (s : State) :
    execKeypoll s = .next (if s.running then pollState s.keyPoll s else s) := by
  cases hr : s.running <;> cases hg : s.gate <;> cases hk : s.keyPoll <;>
    simp [execKeypoll, pollState, execNokey, handleCommand_eq, hr, hg, hk]

/-- Settles O24: a poll that takes a key runs its command on the state with the gate closed, any other poll is the
identity. -/
theorem keypollFrame : Obligations.KeypollFrame := by
  intro s
  refine ⟨_, execKeypoll_eq s, ?_⟩
  by_cases htake : s.running = true ∧ s.gate = true ∧ s.keyPoll.isSome = true
  · obtain ⟨hr, hg, hk⟩ := htake
    obtain ⟨c, hc⟩ := Option.isSome_iff_exists.mp hk
    have e : (if s.running then pollState s.keyPoll s else s) = commandState (decodeCommand c) s.disableGate := by
      simp [hr, pollState, hg, hc]
    rw [e]
    have hf := commandState_frame c s.disableGate
    exact ⟨fun _ => commandState_gate c s.disableGate, fun h => absurd ⟨hr, hg, hk⟩ h, hf.tickCnt, hf.tickLimit,
      hf.prescSel, hf.configured, hf.fault, hf.inputs, hf.envCount, hf.trace⟩
  · have e : (if s.running then pollState s.keyPoll s else s) = s := by
      unfold pollState
      split
      · split <;> simp_all
      · rfl
    rw [e]
    exact ⟨fun h => absurd h htake, fun _ => rfl, rfl, rfl, rfl, rfl, rfl, rfl, rfl, by simp⟩

/-- A sequencer step closes the gate exactly when it takes a key (R91). -/
theorem sequencerState_gate_iff (key : Option KeyCode) (s : State) :
    (sequencerState key s).gate = true ↔ s.gate = true ∧ ¬(s.accepting = true ∧ ∃ c, key = some c) := by
  have hacc := accepting_iff s
  rcases sequencerState_cases key s with
    ⟨hr, e⟩ | ⟨-, hd, e⟩ | ⟨-, -, -, hk, e⟩ | ⟨ha, c, rfl, e⟩ | ⟨-, -, hp, -, e⟩ | ⟨-, -, hp, -, e⟩ | ⟨-, -, hp, -, e⟩ |
    ⟨-, -, hp, -, e⟩ | ⟨-, -, hp, e⟩ <;> rw [e]
  case inr.inr.inr.inl => simp [commandState_gate, ha] -- a key is taken
  case inr.inr.inl => rcases hk with hk | rfl <;> simp_all -- a closed gate, or no key
  all_goals simp_all

/-- A tick opens the gate exactly when it reaches the limit (R94). -/
theorem tickState_gate_iff (s : State) :
    (stimulusState .tick s).gate = true ↔
      s.gate = true ∨ (s.configured = true ∧ s.fault = false ∧ s.tickCnt.toNat + 1 = s.tickLimit.toNat) := by
  have hrun := running_iff s
  rcases tickState_cases s with ⟨hr, e⟩ | ⟨hr, hc, e⟩ | ⟨hr, hc, e⟩ <;> rw [e] <;> simp_all

theorem configureState_gate (w : ConfigWord) (s : State) : (stimulusState (.configure w) s).gate = s.gate := by
  rcases configureState_cases w s with ⟨-, e⟩ | ⟨-, -, -, e⟩ | ⟨-, -, -, e⟩ <;> rw [e]

/-- Settles O26, agent by agent. -/
theorem gateWriters : Obligations.GateWriters := by
  intro x s t hx hstep
  obtain rfl : stimulusState x s = t := by simpa [step_feed] using hstep
  cases x with
  | reset => exact absurd rfl hx
  | configure w => rw [configureState_gate]; simp
  | tick =>
    refine ⟨fun hg => by simp [tickState_gate_iff, hg], fun hg => ?_⟩
    simp [(tickState_gate_iff s).mpr (.inl hg)]
  | sequencer key =>
    have hgate := sequencerState_gate_iff key s
    refine ⟨fun hg => ?_, fun hg => ?_⟩
    · simp [stimulusState, hgate, hg]
    · rw [← Bool.not_eq_true]
      simp [stimulusState, hgate, hg, and_comm]

/-- Settles O53: a presented key is taken exactly when the gate closes. -/
theorem derivedFlags : Obligations.DerivedFlags := by
  intro s
  refine ⟨busy_iff s, by simp [State.stopped], by simp [accepting_iff, running_iff, and_assoc], fun c t hstep => ?_⟩
  obtain rfl : sequencerState (some c) s = t := by simpa [step_feed, stimulusState] using hstep
  have hopen : s.accepting = true → s.gate = true := fun h => ((accepting_iff s).mp h).2.2.2
  rw [← Bool.not_eq_true (sequencerState (some c) s).gate, sequencerState_gate_iff]
  constructor
  · intro ha; simp [ha, hopen ha]
  · rintro ⟨hg, hn⟩; simpa [hg] using hn

/-! ### The duty and the PWM Sink -/

/-- From s to t, either neither DUTY nor the PWM Sink changed, or the DUTY of t was written to the sink (R13). -/
def State.DutyDriven (s t : State) : Prop :=
  (t.duty = s.duty ∧ t.pwmHeld = s.pwmHeld) ∨ (t.pwmHeld = some t.duty ∧ .pwm t.duty ∈ t.trace.drop s.trace.length)

theorem commandState_dutyDriven (c : KeyCode) (s : State) : s.DutyDriven (commandState (decodeCommand c) s) := by
  rcases commandState_cases c s with
    ⟨-, -, e⟩ | ⟨-, -, -, e⟩ | ⟨-, -, -, t, -, e⟩ | ⟨-, -, -, t, -, e⟩ | ⟨-, e⟩ | ⟨-, e⟩ | ⟨-, e⟩ | ⟨-, e⟩ | ⟨-, e⟩ <;>
    rw [e] <;> simp [State.DutyDriven]

theorem sequencerState_dutyDriven (key : Option KeyCode) (s : State) : s.DutyDriven (sequencerState key s) := by
  rcases sequencerState_cases key s with
    ⟨-, e⟩ | ⟨-, -, e⟩ | ⟨-, -, -, -, e⟩ | ⟨-, c, -, e⟩ | ⟨-, -, -, -, e⟩ | ⟨-, -, -, -, e⟩ | ⟨-, -, -, -, e⟩ |
    ⟨-, -, -, -, e⟩ | ⟨-, -, -, e⟩ <;> rw [e]
  case inr.inr.inr.inl => exact commandState_dutyDriven c { s with gate := false } -- a key is taken
  all_goals simp [State.DutyDriven]

theorem stimulusState_dutyDriven {x : Stimulus} (hx : x ≠ .reset) (s : State) : s.DutyDriven (stimulusState x s) := by
  by_cases hseq : ∃ key, x = .sequencer key
  · obtain ⟨key, rfl⟩ := hseq
    exact sequencerState_dutyDriven key s
  · have hd := stimulusState_driveFrame hx (fun key h => hseq ⟨key, h⟩) s
    exact .inl ⟨hd.duty, hd.pwmHeld⟩

/-- Settles O6: a step leaves DUTY and the sink alone, or writes the new DUTY to the sink. -/
theorem sinkHoldsDutyAfterFirstWrite : Obligations.SinkHoldsDutyAfterFirstWrite := by
  intro x s t hx hheld hstep
  obtain rfl : stimulusState x s = t := by simpa [step_feed] using hstep
  rcases stimulusState_dutyDriven hx s with ⟨hduty, hpwm⟩ | ⟨hpwm, -⟩
  · rw [hduty, hpwm]; exact ⟨hheld, id⟩
  · simp [hpwm]

/-- Settles O50, by the same dichotomy. -/
theorem dutyChangesWithAPwmWrite : Obligations.DutyChangesWithAPwmWrite := by
  intro x s t hx hstep hne
  obtain rfl : stimulusState x s = t := by simpa [step_feed] using hstep
  rcases stimulusState_dutyDriven hx s with ⟨hduty, -⟩ | hwritten
  · exact absurd hduty hne
  · exact hwritten

/-! ### MODE and SPEED -/

/-- A digit with a table entry is one of the levels 1 to 5. -/
theorem digit_legal {c : KeyCode} {t : Duty} (ht : dutyTable (digit c) = some t) : 1 ≤ digit c ∧ digit c ≤ 5 := by
  have := (dutyTable_some_iff _ _).mp ht
  omega

/-- The keys that change MODE, and the value each gives it (R11). -/
theorem commandState_mode_changed {c : KeyCode} {s : State}
    (h : (commandState (decodeCommand c) s).mode ≠ s.mode) :
    (c = 0xA#4 ∧ (commandState (decodeCommand c) s).mode = .eco) ∨
      (c = 0xB#4 ∧ (commandState (decodeCommand c) s).mode = .sport) := by
  rcases commandState_cases c s with
    ⟨-, -, e⟩ | ⟨-, -, -, e⟩ | ⟨-, -, -, t, -, e⟩ | ⟨-, -, -, t, -, e⟩ | ⟨hc, e⟩ | ⟨hc, e⟩ | ⟨-, e⟩ | ⟨-, e⟩ | ⟨-, e⟩ <;>
    rw [e] at h ⊢
  case inr.inr.inr.inr.inl => exact .inl ⟨hc, rfl⟩ -- SELECT_ECO
  case inr.inr.inr.inr.inr.inl => exact .inr ⟨hc, rfl⟩ -- SELECT_SPORT
  all_goals exact absurd rfl h

/-- The keys that change SPEED at once: START, and an accepted SET_SPEED in Sport (R12). -/
theorem commandState_speed_changed {c : KeyCode} {s : State}
    (h : (commandState (decodeCommand c) s).speed ≠ s.speed) :
    (c = 0xD#4 ∧ (commandState (decodeCommand c) s).speed = 1#3) ∨
      (1 ≤ c.toNat ∧ c.toNat ≤ 5 ∧ s.mode = .sport ∧ (commandState (decodeCommand c) s).speed.toNat = c.toNat ∧
        ((c.toNat : Int) - s.speed.toNat).natAbs ≤ 1) := by
  rcases commandState_cases c s with
    ⟨-, -, e⟩ | ⟨-, -, -, e⟩ | ⟨-, hd, hm, t, ht, e⟩ | ⟨-, -, -, t, -, e⟩ | ⟨-, e⟩ | ⟨-, e⟩ | ⟨-, e⟩ | ⟨hc, e⟩ | ⟨-, e⟩ <;>
    rw [e] at h ⊢
  case inr.inr.inl => -- the Sport snap
    obtain ⟨hlow, hhigh⟩ := digit_legal ht
    exact .inr ⟨hlow, hhigh, hm, levelOf_toNat ht, hd⟩
  case inr.inr.inr.inr.inr.inr.inr.inl => exact .inl ⟨hc, rfl⟩ -- START
  all_goals exact absurd rfl h

/-- Settles O35: outside a sequencer step the drive state stays; the sequencer's cases are the listed causes. -/
theorem modeAndSpeedWriters : Obligations.ModeAndSpeedWriters := by
  intro x s t hx hstep
  obtain rfl : stimulusState x s = t := by simpa [step_feed] using hstep
  by_cases hseq : ∃ key, x = .sequencer key
  · obtain ⟨key, rfl⟩ := hseq
    simp only [stimulusState]
    rcases sequencerState_cases key s with
      ⟨-, e⟩ | ⟨-, -, e⟩ | ⟨-, -, -, -, e⟩ | ⟨ha, c, rfl, e⟩ | ⟨-, -, -, -, e⟩ | ⟨-, hd, hp, hduty, e⟩ | ⟨-, -, -, -, e⟩ |
      ⟨-, hd, hp, hduty, e⟩ | ⟨-, -, -, e⟩ <;> rw [e]
    case inr.inr.inr.inl => -- a key is taken
      have hidle : s.phase = .idle := ((accepting_iff s).mp ha).2.1
      refine ⟨fun h => ⟨ha, ?_⟩, fun h => .inl ⟨hidle, ha, c, rfl, commandState_speed_changed h⟩⟩
      simpa using commandState_mode_changed h
    case inr.inr.inr.inr.inr.inl => -- RAMP_STEP, completion
      exact ⟨fun h => absurd rfl h, fun _ => .inr (.inl ⟨hp, hd, hduty, rfl⟩)⟩
    case inr.inr.inr.inr.inr.inr.inr.inl => -- STOP_STEP, completion
      exact ⟨fun h => absurd rfl h, fun _ => .inr (.inr ⟨hp, hd, hduty, rfl⟩)⟩
    all_goals exact ⟨fun h => absurd rfl h, fun h => absurd rfl h⟩
  · have hd := stimulusState_driveFrame hx (fun key h => hseq ⟨key, h⟩) s
    exact ⟨fun h => absurd hd.mode h, fun h => absurd hd.speed h⟩

/-! ### FAULT -/

/-- A faulted block is halted: without a reset no stimulus changes it (R21). -/
theorem stimulusState_of_fault {x : Stimulus} {s : State} (hx : x ≠ .reset) (hf : s.fault = true) :
    stimulusState x s = s := by
  have hr : s.running = false := by simp [State.running, hf]
  cases x with
  | reset => exact absurd rfl hx
  | configure w => simp [stimulusState, configureState, hf]
  | tick => simp [stimulusState, hr]
  | sequencer key => simp [stimulusState, sequencerState, hr]

theorem configLimit_eq_zero_iff (w : ConfigWord) : configLimit w = 0#16 ↔ w.toNat % 2 ^ 16 = 0 := by
  rw [← BitVec.toNat_inj]
  simp [configLimit, BitVec.extractLsb'_toNat]

/-- FAULT is set exactly by a CONFIGURE with tick_limit = 0 of a block that is not configured (R81). -/
theorem stimulusState_fault_iff {s : State} (hf : s.fault = false) (x : Stimulus) :
    (stimulusState x s).fault = true ↔ s.configured = false ∧ ∃ w, x = .configure w ∧ configLimit w = 0#16 := by
  cases x with
  | reset => simp [stimulusState]
  | configure w =>
    rcases configureState_cases w s with ⟨hc, e⟩ | ⟨hc, -, hl, e⟩ | ⟨-, -, hl, e⟩ <;> rw [e] <;> simp_all
  | tick => rcases tickState_cases s with ⟨-, e⟩ | ⟨-, -, e⟩ | ⟨-, -, e⟩ <;> rw [e] <;> simp [hf]
  | sequencer key => simp [stimulusState, (sequencerState_frame key s).fault, hf]

/-- Settles O52. -/
theorem faultIsStickyAndHalts : Obligations.FaultIsStickyAndHalts := by
  refine ⟨fun x s hf => ⟨by simp [State.good, hf], fun hx => ?_, _, step_reset s, rfl⟩, fun x s t hf hstep => ?_⟩
  · rw [step_feed, stimulusState_of_fault hx hf]
  · obtain rfl : stimulusState x s = t := by simpa [step_feed] using hstep
    simpa only [configLimit_eq_zero_iff] using stimulusState_fault_iff hf x

/-! ### The invariants -/

/-- Settles O3. -/
theorem resetMeetsInvariants : Obligations.ResetMeetsInvariants := fun gateReset => {
  speedLegal := ⟨Nat.le_refl 1, by simp [State.resetWith]⟩
  pendLegal := ⟨Nat.le_refl 1, by simp [State.resetWith]⟩
  dutyBound := by simp [State.resetWith]
  countBelowLimit := nofun
  countUnconfigured := fun _ => ⟨rfl, rfl⟩
  settled := fun _ => .inl rfl
  ramping := nofun
  stopping := nofun
  holding := fun h => absurd rfl h
  faultUnconfigured := nofun
  targetLegal := .inl rfl
  holdBound := Nat.zero_le _
  busyConfigured := fun h => absurd rfl h }

theorem rampStepDelay_le_badShiftDelay : Config.rampStepDelay ≤ Config.badShiftDelay := by
  unfold Config.badShiftDelay; omega

theorem between_left (a target : Duty) : between a a target :=
  (BitVec.le_total a target).imp (fun h => ⟨BitVec.le_refl a, h⟩) (fun h => ⟨h, BitVec.le_refl a⟩)

/-- A moving ramp step stays between the ramp's start and its target (R28 e). -/
theorem between_towards {a duty target : Duty} (hne : duty ≠ target) (h : between a duty target) :
    between a (towards duty target) target := by
  have hne' : duty.toNat ≠ target.toNat := fun e => hne (BitVec.eq_of_toNat_eq e)
  simp only [between, BitVec.le_def] at h ⊢
  rcases Nat.lt_or_gt_of_ne hne' with hlt | hgt
  · rw [towards_of_lt hlt]; omega
  · rw [towards_of_gt hgt]; omega

/-- A moving ramp step goes no higher than the higher of DUTY and TARGET. -/
theorem towards_le {duty target : Duty} {n : Nat} (hduty : duty.toNat ≤ n) (htarget : target.toNat ≤ n)
    (hne : duty ≠ target) : (towards duty target).toNat ≤ n := by
  have hne' : duty.toNat ≠ target.toNat := fun e => hne (BitVec.eq_of_toNat_eq e)
  rcases Nat.lt_or_gt_of_ne hne' with hlt | hgt
  · rw [towards_of_lt hlt]; omega
  · rw [towards_of_gt hgt]; omega

theorem configureState_inv {s : State} (h : s.Inv) (w : ConfigWord) : (stimulusState (.configure w) s).Inv := by
  rcases configureState_cases w s with ⟨-, e⟩ | ⟨hc, -, -, e⟩ | ⟨hc, hf, hl, e⟩ <;> rw [e]
  · exact h
  · exact { h with faultUnconfigured := fun _ => hc }
  · have hlim : (configLimit w).toNat ≠ 0 := fun e => hl (BitVec.eq_of_toNat_eq e)
    exact { h with
      countBelowLimit := fun _ => by
        obtain ⟨hcnt, -⟩ := h.countUnconfigured hc
        simp only [hcnt, BitVec.toNat_ofNat]
        omega
      countUnconfigured := nofun
      faultUnconfigured := fun hf' => absurd hf' (by simp [hf])
      busyConfigured := fun _ => rfl }

theorem tickState_inv {s : State} (h : s.Inv) : (stimulusState .tick s).Inv := by
  have unconfigured_absurd (hr : s.running = true) (hc : s.configured = false) : False := by simp_all [State.running]
  rcases tickState_cases s with ⟨-, e⟩ | ⟨hr, -, e⟩ | ⟨hr, hne, e⟩ <;> rw [e]
  · exact h
  · exact { h with
      countBelowLimit := fun hc => by have := h.countBelowLimit hc; simp; omega
      countUnconfigured := fun hc => (unconfigured_absurd hr hc).elim }
  · exact { h with
      countBelowLimit := fun hc => by
        have hcount := h.countBelowLimit hc
        have hwidth := s.tickLimit.isLt
        simp only [BitVec.toNat_ofNat]
        omega
      countUnconfigured := fun hc => (unconfigured_absurd hr hc).elim }

/-- A command dispatched by an idle, configured block keeps the invariants. -/
theorem commandState_inv {s : State} (h : s.Inv) (hc : s.configured = true) (hp : s.phase = .idle) (c : KeyCode) :
    (commandState (decodeCommand c) s).Inv := by
  have hset : settledDuty s.speed s.duty := h.settled (.inl hp)
  have hramp : s.phase ≠ .ramp := by simp [hp]
  rcases commandState_cases c s with
    ⟨-, -, e⟩ | ⟨-, -, -, e⟩ | ⟨-, -, -, t, ht, e⟩ | ⟨-, hdist, hm, t, ht, e⟩ | ⟨-, e⟩ | ⟨-, e⟩ | ⟨-, e⟩ | ⟨-, e⟩ |
    ⟨-, e⟩ <;> rw [e]
  · -- Bad Shift
    exact { h with
      settled := fun _ => hset, ramping := nofun, stopping := nofun, holding := nofun
      holdBound := Nat.le_refl _, busyConfigured := fun _ => hc }
  · exact { h with } -- an invalid digit
  · -- the Sport snap
    exact { h with
      speedLegal := by rw [levelOf_toNat ht]; exact digit_legal ht
      dutyBound := (dutyTable_bound ht).2
      settled := fun _ => .inl (by rw [levelOf_toNat ht]; exact ht)
      ramping := fun hq => absurd hq hramp }
  · -- the start of an Eco ramp
    exact { h with
      pendLegal := by rw [levelOf_toNat ht]; exact digit_legal ht
      settled := nofun
      ramping := fun _ => by
        rw [levelOf_toNat ht]
        exact ⟨ht, hdist, hm, s.duty, hset, between_left s.duty t⟩
      stopping := nofun, holding := nofun
      targetLegal := .inr ⟨digit c, ht⟩
      busyConfigured := fun _ => hc }
  · exact { h with ramping := fun hq => absurd hq hramp } -- SELECT_ECO
  · exact { h with ramping := fun hq => absurd hq hramp } -- SELECT_SPORT
  · -- the start of a stop
    exact { h with
      settled := nofun, ramping := nofun, stopping := fun _ => rfl, holding := nofun
      targetLegal := .inl rfl, busyConfigured := fun _ => hc }
  · -- START
    exact { h with
      speedLegal := by simp
      dutyBound := by simp
      settled := fun _ => .inl rfl
      ramping := fun hq => absurd hq hramp }
  · exact { h with } -- an unrecognised code

theorem sequencerState_inv {s : State} (h : s.Inv) (key : Option KeyCode) : (sequencerState key s).Inv := by
  rcases sequencerState_cases key s with
    ⟨-, e⟩ | ⟨-, hd, e⟩ | ⟨-, -, -, -, e⟩ | ⟨ha, c, rfl, e⟩ | ⟨-, -, hp, hne, e⟩ | ⟨-, hd, hp, heq, e⟩ |
    ⟨-, -, hp, hne, e⟩ | ⟨-, hd, hp, heq, e⟩ | ⟨-, hd, hp, e⟩ <;> rw [e]
  · exact h -- halted
  · -- a hold
    exact { h with
      holding := fun _ => h.holding hd
      holdBound := Nat.le_trans (Nat.sub_le s.dly 1) h.holdBound }
  · exact h -- no key, or a closed gate
  · -- a key is taken
    obtain ⟨hrun, hp, -, -⟩ := (accepting_iff s).mp ha
    exact commandState_inv (s := { s with gate := false }) { h with } ((running_iff s).mp hrun).1 hp c
  · -- RAMP_STEP, moving
    obtain ⟨htable, hdist, hm, a, hset, hbetween⟩ := h.ramping hp
    exact { h with
      dutyBound := towards_le h.dutyBound (dutyTable_bound htable).2 hne
      settled := fun hq => by simp [hp] at hq
      ramping := fun _ => ⟨htable, hdist, hm, a, hset, between_towards hne hbetween⟩
      holding := fun _ => by simp [hp]
      holdBound := rampStepDelay_le_badShiftDelay }
  · -- RAMP_STEP, completion
    obtain ⟨htable, -⟩ := h.ramping hp
    exact { h with
      speedLegal := h.pendLegal
      settled := fun _ => .inl (by rw [heq]; exact htable)
      ramping := nofun, stopping := nofun
      holding := fun hd' => absurd hd hd'
      busyConfigured := fun hq => absurd rfl hq }
  · -- STOP_STEP, moving
    exact { h with
      dutyBound := by
        have := h.dutyBound
        show (s.duty - 1#7).toNat ≤ 50
        rw [duty_pred_toNat hne]
        omega
      settled := fun hq => by simp [hp] at hq
      ramping := fun hq => by simp [hp] at hq
      holding := fun _ => by simp [hp]
      holdBound := rampStepDelay_le_badShiftDelay }
  · -- STOP_STEP, completion
    exact { h with
      speedLegal := by simp
      dutyBound := by simp
      settled := fun _ => .inr ⟨rfl, rfl⟩
      ramping := nofun, stopping := nofun
      holding := fun hd' => absurd hd hd'
      busyConfigured := fun hq => absurd rfl hq }
  · -- PENALTY_EXIT
    exact { h with
      settled := fun _ => h.settled (.inr hp)
      ramping := nofun, stopping := nofun
      holding := fun hd' => absurd hd hd'
      busyConfigured := fun hq => absurd rfl hq }

/-- The invariants do not speak of the model's own fields. -/
theorem State.Inv.withInputs {s : State} (h : s.Inv) (xs : List Stimulus) (n : Nat) :
    State.Inv { s with inputs := xs, envCount := n } := { h with }

/-- Every stimulus keeps the invariants (R28). -/
theorem stimulusState_inv {s : State} (h : s.Inv) (x : Stimulus) : (stimulusState x s).Inv := by
  cases x with
  | reset => exact { resetMeetsInvariants true with }
  | configure w => exact configureState_inv h w
  | tick => exact tickState_inv h
  | sequencer key => exact sequencerState_inv h key

/-- Settles O4: whether the stimulus is listed or the environment's, the step is that stimulus's, and none breaks the
invariants. -/
theorem everyStepKeepsInvariants : Obligations.EveryStepKeepsInvariants := by
  intro s t h hstep
  rcases step_eq_feed s with ⟨x, xs, -, e⟩ | ⟨-, e⟩ <;> rw [e, step_feed] at hstep <;> cases hstep
  · exact stimulusState_inv (h.withInputs xs s.envCount) x
  · exact stimulusState_inv (h.withInputs [] (s.envCount + 1)) (Config.environment s.envCount)

/-- Settles O54: a hold is never left in IDLE (R28 g). -/
theorem busyIsPhaseInInvariantStates : Obligations.BusyIsPhaseInInvariantStates := by
  intro s h
  rw [busy_iff]
  exact ⟨fun hb => hb.elim id h.holding, .inl⟩

/-! ### Reset and the status ports -/

/-- Settles O1: an unconfigured block does not run, so its ticks and sequencer steps are the identity. -/
theorem resetLeavesTheRegisterTable : Obligations.ResetLeavesTheRegisterTable := by
  have hrun : State.reset.running = false := rfl
  refine ⟨⟨rfl, rfl, rfl, rfl, rfl, rfl, rfl, rfl, rfl, rfl, rfl, rfl, rfl⟩, rfl, fun key => ?_, ?_⟩
  · rw [step_sequencer]; simp [stimulusState, sequencerState, hrun]
  · rw [step_tick]; simp [stimulusState, hrun]

theorem DriveMode.bit_injective : Function.Injective DriveMode.bit := by
  intro a b; cases a <;> cases b <;> decide

theorem Phase.bits_injective : Function.Injective Phase.bits := by
  intro a b; cases a <;> cases b <;> decide

/-- Settles O60: each port is its register by definition, and the codes of MODE and PHASE determine them. -/
theorem statusPortsShowTheRegisters : Obligations.StatusPortsShowTheRegisters := by
  refine ⟨fun s => ?_, fun s t h => ?_⟩
  · exact ⟨running_iff s, rfl, fun h => by simp [State.statusPorts, h, DriveMode.bit],
      fun h => by simp [State.statusPorts, h, DriveMode.bit], rfl, rfl, rfl, rfl, rfl, rfl, rfl, rfl, rfl,
      fun h => by simp [State.statusPorts, h, Phase.bits], fun h => by simp [State.statusPorts, h, Phase.bits],
      fun h => by simp [State.statusPorts, h, Phase.bits], fun h => by simp [State.statusPorts, h, Phase.bits], rfl,
      busy_iff s, (derivedFlags s).2.1, (derivedFlags s).2.2.1⟩
  · have hmode : s.mode = t.mode := DriveMode.bit_injective (congrArg StatusPorts.mode h)
    have hphase : s.phase = t.phase := Phase.bits_injective (congrArg StatusPorts.phase h)
    cases s
    cases t
    simp_all [State.statusPorts]

end Sys2Proof.Machine
end

section
/-! Proofs of the statements about the ports and the cycle (spec 20_memory): that a key no one polls has no effect, the
order of the steps of a cycle, the events each step can emit, and what the event ports show of them. -/

namespace Sys2Proof.Machine

/-! ### Keys -/

theorem pollState_of_gate_closed {s : State} (hg : s.gate = false) (key : Option KeyCode) : pollState key s = s := by
  simp [pollState, hg]

/-- Only the poll reads the key: outside IDLE the sequencer's operation does not depend on it. -/
theorem phaseState_key_unseen {s : State} (hp : s.phase ≠ .idle) (k l : Option KeyCode) :
    phaseState k s = phaseState l s := by
  cases h : s.phase with
  | idle => exact absurd h hp
  | ramp | stopRamp | penalty => simp only [phaseState, h]

/-- A block that does not accept does not run, holds, is outside IDLE, or has its gate closed; none of these reads the
key (R22, R44). -/
theorem sequencerState_key_unseen {s : State} (ha : s.accepting = false) (k l : Option KeyCode) :
    sequencerState k s = sequencerState l s := by
  unfold sequencerState
  split
  case isFalse => rfl
  case isTrue hr =>
    split
    case isTrue => rfl
    case isFalse hd =>
      by_cases hp : s.phase = .idle
      · have hg : s.gate = false := Bool.eq_false_iff.mpr fun hg => by
          simp [(accepting_iff s).mpr ⟨hr, hp, not_not.mp hd, hg⟩] at ha
        simp only [phaseState, hp, pollState_of_gate_closed hg]
      · exact phaseState_key_unseen hp k l

/-- Settles O27. -/
theorem keysUnseenUnlessAccepting : Obligations.KeysUnseenUnlessAccepting := by
  intro k l s ha
  rw [step_sequencer, step_sequencer]
  exact congrArg Host.Outcome.next (sequencerState_key_unseen ha k l)

/-! ### The cycle -/

/-- The state after the configure step of a cycle, if there is one (R52). -/
def PortsIn.configurePart (p : PortsIn) (s : State) : State :=
  if p.cfgValid then stimulusState (.configure p.cfgWord) s else s

/-- The state after the tick step of a cycle, if there is one (R52). -/
def PortsIn.tickPart (p : PortsIn) (s : State) : State :=
  if p.tick then stimulusState .tick s else s

/-- The state after a cycle (R41, R52). -/
def cycleState (p : PortsIn) (s : State) : State :=
  if p.rst then s.resetStep else sequencerState p.key (p.tickPart (p.configurePart s))

/-- Every cycle, in every state, answers this next state. -/
theorem cycle_eq (p : PortsIn) (s : State) : cycle p s = .next (cycleState p s) := by
  rw [cycle, runStimuli_eq, cycleState]
  congr 1
  cases hrst : p.rst with
  | true => simp [PortsIn.stimuli, hrst, stimulusState]
  | false =>
    simp only [PortsIn.stimuli, hrst, PortsIn.tickPart, PortsIn.configurePart]
    cases p.cfgValid <;> cases p.tick <;> rfl

/-- Settles O55: the parts of `cycleState` are the intermediate states. -/
theorem cycleOrder : Obligations.CycleOrder := by
  intro p s hrst
  refine ⟨p.configurePart s, p.tickPart (p.configurePart s), cycleState p s, ?_, ?_, ?_, cycle_eq p s⟩
  · cases h : p.cfgValid <;> simp [PortsIn.configurePart, h, step_configure]
  · cases h : p.tick <;> simp [PortsIn.tickPart, h, step_tick]
  · rw [step_sequencer, cycleState, hrst]; rfl

/-! ### The events of a step -/

/-- What a tick step can emit (R82, R83). -/
inductive TickEvents : List Event → Prop
  | none : TickEvents []
  | ack : TickEvents [.ack]
  | maintenance : TickEvents [.ack, .maint]

/-- What a sequencer step can emit when it leaves DUTY at `duty`: every PWM write is of that value. -/
inductive SequencerEvents (duty : Duty) : List Event → Prop
  | none : SequencerEvents duty []
  | disp (code : DispCode) : SequencerEvents duty [.disp code]
  | log (code : LogCode) (arg : KeyCode) : SequencerEvents duty [.log code arg]
  | pwm : SequencerEvents duty [.pwm duty]
  | snap : SequencerEvents duty [.disp .clearProc, .pwm duty]
  | stopped : SequencerEvents duty [.pwm duty, .disp .stopped]

theorem emittedSince_eq {s t : State} {events : List Event} (h : t.trace = s.trace ++ events) :
    emittedSince s t = events := by
  simp [emittedSince, h]

theorem configureState_trace (w : ConfigWord) (s : State) : (stimulusState (.configure w) s).trace = s.trace := by
  rcases configureState_cases w s with ⟨-, e⟩ | ⟨-, -, -, e⟩ | ⟨-, -, -, e⟩ <;> rw [e]

theorem tickState_emits (s : State) :
    ∃ events, TickEvents events ∧ (stimulusState .tick s).trace = s.trace ++ events := by
  rcases tickState_cases s with ⟨-, e⟩ | ⟨-, -, e⟩ | ⟨-, -, e⟩ <;> rw [e]
  · exact ⟨[], .none, by simp⟩
  · exact ⟨_, .maintenance, rfl⟩
  · exact ⟨_, .ack, rfl⟩

theorem commandState_emits (c : KeyCode) (s : State) :
    ∃ events, SequencerEvents (commandState (decodeCommand c) s).duty events ∧
      (commandState (decodeCommand c) s).trace = s.trace ++ events := by
  rcases commandState_cases c s with
    ⟨-, -, e⟩ | ⟨-, -, -, e⟩ | ⟨-, -, -, t, -, e⟩ | ⟨-, -, -, t, -, e⟩ | ⟨-, e⟩ | ⟨-, e⟩ | ⟨-, e⟩ | ⟨-, e⟩ | ⟨-, e⟩ <;>
    rw [e]
  · exact ⟨_, .disp .badShift, rfl⟩
  · exact ⟨_, .log .invalidDigit c, rfl⟩
  · exact ⟨_, .snap, rfl⟩
  · exact ⟨_, .disp .clearProc, rfl⟩
  · exact ⟨_, .disp .modeEco, rfl⟩
  · exact ⟨_, .disp .modeSport, rfl⟩
  · exact ⟨[], .none, by simp⟩ -- the start of a stop
  · exact ⟨_, .pwm, rfl⟩
  · exact ⟨_, .log .unrecognized c, rfl⟩

theorem sequencerState_emits (key : Option KeyCode) (s : State) :
    ∃ events, SequencerEvents (sequencerState key s).duty events ∧
      (sequencerState key s).trace = s.trace ++ events := by
  rcases sequencerState_cases key s with
    ⟨-, e⟩ | ⟨-, -, e⟩ | ⟨-, -, -, -, e⟩ | ⟨-, c, -, e⟩ | ⟨-, -, -, -, e⟩ | ⟨-, -, -, -, e⟩ | ⟨-, -, -, -, e⟩ |
    ⟨-, -, -, -, e⟩ | ⟨-, -, -, e⟩ <;> rw [e]
  case inr.inr.inr.inl => exact commandState_emits c { s with gate := false } -- a key is taken
  case inr.inr.inr.inr.inl => exact ⟨_, .pwm, rfl⟩ -- RAMP_STEP, moving
  case inr.inr.inr.inr.inr.inr.inl => exact ⟨_, .pwm, rfl⟩ -- STOP_STEP, moving
  case inr.inr.inr.inr.inr.inr.inr.inl => exact ⟨_, .stopped, rfl⟩ -- STOP_STEP, completion
  all_goals exact ⟨[], .none, by simp⟩

/-! ### PWM values -/

theorem SequencerEvents.eq_duty_of_pwm_mem {duty v : Duty} {events : List Event} (h : SequencerEvents duty events) :
    .pwm v ∈ events → v = duty := by
  cases h <;> simp

/-- Each PWM write of a step is of the value it leaves in DUTY (R13). -/
theorem eq_duty_of_pwm_emitted {x : Stimulus} {s : State} {v : Duty}
    (hv : .pwm v ∈ emittedSince s (stimulusState x s)) : v = (stimulusState x s).duty := by
  cases x with
  | reset => simp [emittedSince, stimulusState] at hv
  | configure w => simp [emittedSince, configureState_trace] at hv
  | tick =>
    obtain ⟨events, hevents, htrace⟩ := tickState_emits s
    rw [emittedSince_eq htrace] at hv
    cases hevents <;> simp at hv
  | sequencer key =>
    obtain ⟨events, hevents, htrace⟩ := sequencerState_emits key s
    rw [stimulusState, emittedSince_eq htrace] at hv
    exact hevents.eq_duty_of_pwm_mem hv

/-- Settles O51: what a step writes to the PWM Sink is its next DUTY, which the invariants bound. -/
theorem pwmValuesInRange : Obligations.PwmValuesInRange := by
  intro x s t h hstep
  obtain rfl : stimulusState x s = t := by simpa [step_feed] using hstep
  refine ⟨fun v hv => ?_, fun hc => ?_⟩
  · rw [eq_duty_of_pwm_emitted hv]
    exact (stimulusState_inv h x).dutyBound
  · have hcount := h.countBelowLimit hc
    have hwidth := s.tickLimit.isLt
    omega

/-! ### The events of a cycle -/

theorem PortsIn.configurePart_trace (p : PortsIn) (s : State) : (p.configurePart s).trace = s.trace := by
  unfold PortsIn.configurePart
  split
  · exact configureState_trace p.cfgWord s
  · rfl

theorem PortsIn.tickPart_emits (p : PortsIn) (s : State) :
    ∃ events, TickEvents events ∧ (p.tickPart s).trace = s.trace ++ events := by
  unfold PortsIn.tickPart
  split
  · exact tickState_emits s
  · exact ⟨[], .none, by simp⟩

/-- A cycle without a reset emits a tick step's events and then a sequencer step's. -/
theorem cycleState_emits {p : PortsIn} (hrst : p.rst = false) (s : State) :
    ∃ ticks drives, TickEvents ticks ∧ SequencerEvents (cycleState p s).duty drives ∧
      (cycleState p s).trace = s.trace ++ (ticks ++ drives) := by
  obtain ⟨ticks, hticks, htick⟩ := p.tickPart_emits (p.configurePart s)
  obtain ⟨drives, hdrives, hdrive⟩ := sequencerState_emits p.key (p.tickPart (p.configurePart s))
  have e : cycleState p s = sequencerState p.key (p.tickPart (p.configurePart s)) := by simp [cycleState, hrst]
  rw [e]
  exact ⟨ticks, drives, hticks, hdrives, by rw [hdrive, htick, p.configurePart_trace, List.append_assoc]⟩

/-- At most one event for each event port (R43). -/
structure OnePerPort (events : List Event) : Prop where
  ack : events.count .ack ≤ 1
  maint : events.count .maint ≤ 1
  pwm : events.countP Claims.isPwm ≤ 1
  disp : events.countP Claims.isDisp ≤ 1
  log : events.countP Claims.isLog ≤ 1

theorem SequencerEvents.onePerPort {duty : Duty} {events : List Event} (h : SequencerEvents duty events) :
    OnePerPort events := by
  cases h <;> constructor <;> simp [List.countP_cons, Claims.isPwm, Claims.isDisp, Claims.isLog]

/-- A sequencer step leaves the tick's two ports alone. -/
theorem SequencerEvents.count_tick_ports {duty : Duty} {events : List Event} (h : SequencerEvents duty events) :
    events.count .ack = 0 ∧ events.count .maint = 0 := by
  cases h <;> simp

/-- The tick step and the sequencer step share no port, so one of each still emits one event per port. -/
theorem TickEvents.onePerPort_append {duty : Duty} {ticks drives : List Event} (ht : TickEvents ticks)
    (hd : SequencerEvents duty drives) : OnePerPort (ticks ++ drives) := by
  obtain ⟨hack, hmaint⟩ := hd.count_tick_ports
  obtain ⟨-, -, hpwm, hdisp, hlog⟩ := hd.onePerPort
  cases ht <;> constructor <;>
    simp [Claims.isPwm, Claims.isDisp, Claims.isLog, hack, hmaint, hpwm, hdisp, hlog]

/-- Settles O56. -/
theorem oneEventPerPort : Obligations.OneEventPerPort := by
  intro p s t hcycle
  obtain rfl : cycleState p s = t := by simpa [cycle_eq] using hcycle
  cases hrst : p.rst with
  | true => simp [emittedSince, cycleState, hrst]
  | false =>
    obtain ⟨ticks, drives, ht, hd, htrace⟩ := cycleState_emits hrst s
    have hone := ht.onePerPort_append hd
    rw [emittedSince_eq htrace]
    exact ⟨fun _ => htrace.symm, hone.ack, hone.maint, hone.pwm, hone.disp, hone.log⟩

/-! ### Strobes and payloads -/

/-- Where a port has one event, no event after it is the port's. -/
theorem exists_split_of_countP_le_one {events : List Event} {e : Event} {onPort : Event → Bool} (he : e ∈ events)
    (hport : onPort e = true) (hone : events.countP onPort ≤ 1) :
    ∃ before after, events = before ++ e :: after ∧ ∀ e' ∈ after, onPort e' = false := by
  obtain ⟨before, after, rfl⟩ := List.append_of_mem he
  refine ⟨before, after, rfl, ?_⟩
  rw [List.countP_append, List.countP_cons_of_pos hport] at hone
  have hnone : after.countP onPort = 0 := by omega
  simpa using List.countP_eq_zero.mp hnone

/-- The event ports, from some event on. -/
theorem eventPorts_append_cons (before after : List Event) (e : Event) :
    eventPorts (before ++ e :: after) = after.foldl EventPorts.show ((eventPorts before).show e) := by
  simp [eventPorts]

theorem pwmDuty_eq {events : List Event} {v : Duty} (hv : .pwm v ∈ events)
    (hone : events.countP Claims.isPwm ≤ 1) : (eventPorts events).pwmDuty = v := by
  obtain ⟨before, after, rfl, hnone⟩ := exists_split_of_countP_le_one hv rfl hone
  rw [eventPorts_append_cons, foldl_show_pwmDuty fun v' hv' => by simpa [Claims.isPwm] using hnone _ hv']
  rfl

theorem dispCode_eq {events : List Event} {code : DispCode} (hc : .disp code ∈ events)
    (hone : events.countP Claims.isDisp ≤ 1) : (eventPorts events).dispCode = code.bits := by
  obtain ⟨before, after, rfl, hnone⟩ := exists_split_of_countP_le_one hc rfl hone
  rw [eventPorts_append_cons, foldl_show_dispCode fun code' hc' => by simpa [Claims.isDisp] using hnone _ hc']
  rfl

theorem logCode_logArg_eq {events : List Event} {code : LogCode} {arg : KeyCode} (hc : .log code arg ∈ events)
    (hone : events.countP Claims.isLog ≤ 1) :
    (eventPorts events).logCode = code.bits ∧ (eventPorts events).logArg = arg := by
  obtain ⟨before, after, rfl, hnone⟩ := exists_split_of_countP_le_one hc rfl hone
  rw [eventPorts_append_cons]
  exact foldl_show_log (fun code' arg' hc' => by simpa [Claims.isLog] using hnone _ hc') _

theorem DispCode.bits_eq_dispNumber (code : DispCode) : code.bits = Claims.dispNumber code := by
  cases code <;> rfl

theorem LogCode.bits_eq_logNumber (code : LogCode) : code.bits = Claims.logNumber code := by
  cases code <;> rfl

theorem tickAck_iff (events : List Event) : (eventPorts events).tickAck = true ↔ .ack ∈ events := by
  simp [eventPorts_foldl, foldl_show_tickAck, EventPorts.quiet]

theorem maint_iff (events : List Event) : (eventPorts events).maint = true ↔ .maint ∈ events := by
  simp [eventPorts_foldl, foldl_show_maint, EventPorts.quiet]

theorem pwmWe_iff (events : List Event) : (eventPorts events).pwmWe = true ↔ ∃ v, .pwm v ∈ events := by
  simp [eventPorts_foldl, foldl_show_pwmWe, EventPorts.quiet]

theorem dispValid_iff (events : List Event) :
    (eventPorts events).dispValid = true ↔ ∃ code, .disp code ∈ events := by
  simp [eventPorts_foldl, foldl_show_dispValid, EventPorts.quiet]

theorem logValid_iff (events : List Event) :
    (eventPorts events).logValid = true ↔ ∃ code arg, .log code arg ∈ events := by
  simp [eventPorts_foldl, foldl_show_logValid, EventPorts.quiet]

/-- Settles O58: without its strobe a port had no event and its payload is still the quiet one; with one event the payload
is that event's. -/
theorem payloadsAreZeroWithoutStrobe : Obligations.PayloadsAreZeroWithoutStrobe := by
  intro events
  refine ⟨fun h => ?_, fun h => ?_, fun h => ?_, tickAck_iff events, maint_iff events, pwmWe_iff events,
    dispValid_iff events, logValid_iff events, fun v hv hone => pwmDuty_eq hv hone, fun code hc hone => ?_,
    fun code arg hc hone => ?_⟩
  · exact foldl_show_pwmDuty (fun v hv => by simp [(pwmWe_iff events).mpr ⟨v, hv⟩] at h) .quiet
  · exact foldl_show_dispCode (fun code hc => by simp [(dispValid_iff events).mpr ⟨code, hc⟩] at h) .quiet
  · exact foldl_show_log (fun code arg hc => by simp [(logValid_iff events).mpr ⟨code, arg, hc⟩] at h) .quiet
  · rw [dispCode_eq hc hone, DispCode.bits_eq_dispNumber]
  · rw [← LogCode.bits_eq_logNumber]; exact logCode_logArg_eq hc hone

end Sys2Proof.Machine
end

section
/-! Proofs of the statements about the encoding (spec 30_encoding): the key codes by the rows of the opcode table, that the
decoder and the encoder are each other's inverse, what the sequencer selects, and that RUN ends in the number of steps of
R130. -/

namespace Sys2Proof.Machine

/-! ### Key codes -/

/-- The rows of the key table as a relation: the code meets the match and mask of the command's row, and a row with an
operand takes the whole code (R61, R62, R63). -/
inductive KeyRow (c : KeyCode) : Command → Prop
  | setSpeed (h : c &&& 0x8#4 = 0x0#4) : KeyRow c (.setSpeed c)
  | setSpeedHigh (h : c &&& 0xE#4 = 0x8#4) : KeyRow c (.setSpeedHigh c)
  | selectEco (h : c = 0xA#4) : KeyRow c .selectEco
  | selectSport (h : c = 0xB#4) : KeyRow c .selectSport
  | stop (h : c = 0xC#4) : KeyRow c .stop
  | start (h : c = 0xD#4) : KeyRow c .start
  | unrecognized (h : c &&& 0xE#4 = 0xE#4) : KeyRow c (.unrecognized c)

theorem keyMask_low_iff (c : KeyCode) : c &&& 0x8#4 = 0x0#4 ↔ c.toNat ≤ 7 := by
  revert c; decide

theorem keyMask_high_iff (c : KeyCode) : c &&& 0xE#4 = 0x8#4 ↔ c.toNat = 8 ∨ c.toNat = 9 := by
  revert c; decide

theorem keyMask_reserved_iff (c : KeyCode) : c &&& 0xE#4 = 0xE#4 ↔ c.toNat = 14 ∨ c.toNat = 15 := by
  revert c; decide

/-- A code no earlier row takes is reserved (R63). -/
theorem reserved_of_no_earlier_row {c : KeyCode} (h8 : c &&& 0x8#4 ≠ 0x0#4) (hE : c &&& 0xE#4 ≠ 0x8#4)
    (hA : c ≠ 0xA#4) (hB : c ≠ 0xB#4) (hC : c ≠ 0xC#4) (hD : c ≠ 0xD#4) : c &&& 0xE#4 = 0xE#4 := by
  rw [Ne, keyMask_low_iff] at h8
  rw [Ne, keyMask_high_iff] at hE
  rw [keyMask_reserved_iff]
  bv_omega

/-- The decoder finds a row for every code. -/
theorem keyRow_decodeCommand (c : KeyCode) : KeyRow c (decodeCommand c) := by
  unfold decodeCommand
  split_ifs with h8 hE hA hB hC hD
  · exact .setSpeed h8
  · exact .setSpeedHigh hE
  · exact .selectEco hA
  · exact .selectSport hB
  · exact .stop hC
  · exact .start hD
  · exact .unrecognized (reserved_of_no_earlier_row h8 hE hA hB hC hD)

/-- No code meets two rows, so the decoder's row is the only one. -/
theorem KeyRow.decodeCommand_eq {c : KeyCode} {cmd : Command} (h : KeyRow c cmd) : decodeCommand c = cmd := by
  cases h with
  | setSpeed h => simp [decodeCommand, h]
  | setSpeedHigh h | unrecognized h => revert c; decide
  | selectEco h | selectSport h | stop h | start h => subst h; rfl

theorem KeyRow.wf {c : KeyCode} {cmd : Command} (h : KeyRow c cmd) : cmd.instr.wf = true := by
  cases h with
  | setSpeed h | setSpeedHigh h | unrecognized h => simp [Command.instr, Instr.wf, h]
  | selectEco | selectSport | stop | start => rfl

theorem KeyRow.encode_eq {c : KeyCode} {cmd : Command} (h : KeyRow c cmd) : encode cmd.instr = .key c := by
  cases h with
  | setSpeed | setSpeedHigh | unrecognized => rfl
  | selectEco h | selectSport h | stop h | start h => rw [h]; rfl

/-- Of the rows of the formats K-D and K-C, a code selects its command's row only (R72). -/
theorem KeyRow.filter_keyRows {c : KeyCode} {cmd : Command} (h : KeyRow c cmd) :
    keyRows.filter (·.selects c.toNat) = [cmd.instr.row] := by
  cases h with
  | setSpeed h | setSpeedHigh h | unrecognized h => revert c; decide
  | selectEco h | selectSport h | stop h | start h => subst h; decide

/-- The key code's word, decoded by its row. -/
theorem KeyRow.decode_key {c : KeyCode} {cmd : Command} (h : KeyRow c cmd) : decode (.key c) = .ok cmd.instr := by
  rw [decode, h.decodeCommand_eq]

/-- Format K-D is the codes at most 9 (R61). -/
theorem KeyRow.format_eq {c : KeyCode} {cmd : Command} (h : KeyRow c cmd) :
    cmd.instr.row.format = if c.toNat ≤ 9 then .kD else .kC := by
  cases h with
  | setSpeed h => rw [keyMask_low_iff] at h; rw [if_pos (by omega)]; rfl
  | setSpeedHigh h => rw [keyMask_high_iff] at h; rw [if_pos (by omega)]; rfl
  | unrecognized h => rw [keyMask_reserved_iff] at h; rw [if_neg (by omega)]; rfl
  | selectEco h | selectSport h | stop h | start h => subst h; rfl

/-- Settles O7: each range of codes is the match and mask of a row. -/
theorem keyCodeMap : Obligations.KeyCodeMap := fun c =>
  ⟨fun h => (KeyRow.setSpeed ((keyMask_low_iff c).mpr h)).decodeCommand_eq,
    fun h => (KeyRow.setSpeedHigh ((keyMask_high_iff c).mpr h)).decodeCommand_eq,
    fun h => (KeyRow.selectEco (BitVec.eq_of_toNat_eq h)).decodeCommand_eq,
    fun h => (KeyRow.selectSport (BitVec.eq_of_toNat_eq h)).decodeCommand_eq,
    fun h => (KeyRow.stop (BitVec.eq_of_toNat_eq h)).decodeCommand_eq,
    fun h => (KeyRow.start (BitVec.eq_of_toNat_eq h)).decodeCommand_eq,
    fun h => (KeyRow.unrecognized ((keyMask_reserved_iff c).mpr h)).decodeCommand_eq,
    (keyRow_decodeCommand c).format_eq⟩

/-! ### The configure word and the sequencer's word -/

theorem configSelector_append (sel : Selector) (lim : TickCount) : configSelector (sel ++ lim) = sel :=
  BitVec.extractLsb'_append_eq_left

theorem configLimit_append (sel : Selector) (lim : TickCount) : configLimit (sel ++ lim) = lim :=
  BitVec.extractLsb'_append_eq_right

theorem configSelector_toNat (w : ConfigWord) : (configSelector w).toNat = w.toNat / 2 ^ 16 := by
  have := w.isLt
  simp only [configSelector, BitVec.extractLsb'_toNat, Nat.shiftRight_eq_div_pow]
  omega

theorem configLimit_toNat (w : ConfigWord) : (configLimit w).toNat = w.toNat % 2 ^ 16 := by
  simp [configLimit, BitVec.extractLsb'_toNat]

/-- The two fields are the whole word (R66). -/
theorem configSelector_append_configLimit (w : ConfigWord) : configSelector w ++ configLimit w = w := by
  apply BitVec.eq_of_toNat_eq
  rw [BitVec.toNat_append, configSelector_toNat, configLimit_toNat, ← Nat.shiftLeft_add_eq_or_of_lt (by omega),
    Nat.shiftLeft_eq]
  omega

/-- Settles O8: while cfg_valid_i = 0 the word is in none of the cycle's stimuli. -/
theorem configureWordLayout : Obligations.ConfigureWordLayout := by
  refine ⟨fun w => ⟨_, _, rfl, configSelector_toNat w, configLimit_toNat w⟩, fun p w s hvalid => ?_⟩
  have hstimuli : { p with cfgWord := w }.stimuli = p.stimuli := by
    simp only [PortsIn.stimuli, hvalid]; rfl
  rw [cycle, hstimuli, cycle]

theorem decodeSequencer_wf (phase : BitVec 2) (hold : Bool) : (decodeSequencer phase hold).wf = true := by
  unfold decodeSequencer; split_ifs <;> rfl

/-- All four values of PHASE are assigned (R68). -/
theorem phaseBits_eq_three {phase : BitVec 2} (h0 : phase ≠ 0#2) (h1 : phase ≠ 1#2) (h2 : phase ≠ 2#2) :
    phase = 3#2 := by
  revert phase; decide

theorem encode_decodeSequencer (phase : BitVec 2) (hold : Bool) :
    encode (decodeSequencer phase hold) = .seq phase hold := by
  cases hold with
  | true => rfl
  | false =>
    simp only [decodeSequencer, Bool.false_eq_true, if_false]
    split_ifs with h0 h1 h2
    · rw [h0]; rfl
    · rw [h1]; rfl
    · rw [h2]; rfl
    · rw [phaseBits_eq_three h0 h1 h2]; rfl

/-- DLY not 0 leaves the row of the hold alone, DLY = 0 the rows of PHASE, of which one applies (R68). -/
theorem filter_rowsFor_seq (phase : BitVec 2) (hold : Bool) :
    (rowsFor (.seq phase hold)).filter (·.selects phase.toNat) = [(decodeSequencer phase hold).row] := by
  cases hold with
  | true => simp [rowsFor, decodeSequencer, Instr.row, TableRow.selects, holdRow]
  | false => revert phase; decide

/-! ### Decode and encode -/

/-- Settles O10: a key's operation by its row of the key table, CONFIGURE by its two fields. -/
theorem decodeOfEncode : Obligations.DecodeOfEncode := by
  intro i hwf
  cases i with
  | configure sel lim => rw [encode, decode, configSelector_append, configLimit_append]
  | setSpeed n => exact (KeyRow.setSpeed (by simpa [Instr.wf] using hwf)).decode_key
  | setSpeedHigh n => exact (KeyRow.setSpeedHigh (by simpa [Instr.wf] using hwf)).decode_key
  | selectEco => exact (KeyRow.selectEco rfl).decode_key
  | selectSport => exact (KeyRow.selectSport rfl).decode_key
  | stop => exact (KeyRow.stop rfl).decode_key
  | start => exact (KeyRow.start rfl).decode_key
  | unrecognized c => exact (KeyRow.unrecognized (by simpa [Instr.wf] using hwf)).decode_key
  | tick | nokey | rampStep | stopStep | penaltyExit | dlyHold | keypoll => rfl

/-- The only tick bit that decodes is 1 (R69). -/
theorem decode_evt_eq_ok {b : BitVec 1} {i : Instr} (h : decode (.evt b) = .ok i) : b = 1#1 ∧ i = .tick := by
  rw [decode] at h
  split at h <;> simp_all

/-- Settles O11, port by port. -/
theorem encodeOfDecode : Obligations.EncodeOfDecode := by
  intro w i h
  cases w with
  | cfg w =>
    cases h
    exact ⟨rfl, congrArg PortWord.cfg (configSelector_append_configLimit w)⟩
  | evt b => obtain ⟨rfl, rfl⟩ := decode_evt_eq_ok h; exact ⟨rfl, rfl⟩
  | noKey => cases h; exact ⟨rfl, rfl⟩
  | key c =>
    cases h
    exact ⟨(keyRow_decodeCommand c).wf, (keyRow_decodeCommand c).encode_eq⟩
  | seq phase hold =>
    cases h
    exact ⟨decodeSequencer_wf phase hold, encode_decodeSequencer phase hold⟩

/-- Settles O12: three ports have one row each; the key and the sequencer have the rows counted above. -/
theorem everyWordSelectsOneRow : Obligations.EveryWordSelectsOneRow := by
  intro w i h
  cases w with
  | cfg w =>
    cases h
    simp [rowsFor, Instr.row, TableRow.selects, configureRow]
  | evt b => obtain ⟨rfl, rfl⟩ := decode_evt_eq_ok h; decide
  | noKey => cases h; decide
  | key c =>
    cases h
    exact (keyRow_decodeCommand c).filter_keyRows
  | seq phase hold =>
    cases h
    exact filter_rowsFor_seq phase hold

/-- Settles O9: the words are closed, so the decoder computes them. -/
theorem knownWordsDecode : Obligations.KnownWordsDecode :=
  ⟨rfl, rfl, rfl, rfl, rfl, rfl, rfl, rfl, rfl, rfl⟩

/-! ### The sequencer's selection -/

/-- Line 1 of R68, and the decoder for the other lines. -/
theorem select_sequencer (key : Option KeyCode) (s : State) :
    (s.feed (.sequencer key)).select =
      if s.running then .run (decodeSequencer s.phase.bits (s.dly != 0)) else .nothing := by
  have hword : (s.feed (.sequencer key)).selectWord =
      if s.running then some (.seq s.phase.bits (s.dly != 0)) else none := rfl
  simp only [State.select, feed_inputs, hword]
  cases s.running <;> rfl

theorem sequencerState_of_not_running {s : State} (hr : s.running = false) (key : Option KeyCode) :
    sequencerState key s = s := by
  simp [sequencerState, hr]

/-- KEYPOLL of an accepting block and the command of the key it takes are one step (R68, R90). -/
theorem step_keypoll_dispatches {s : State} (ha : s.accepting = true) (c : KeyCode) :
    step (s.feed (.sequencer (some c))) = mapNext State.retire
      (exec (decodeCommand c).instr { s.feed (.sequencer (some c)) with gate := false }) := by
  obtain ⟨hr, hp, hd, hg⟩ := (accepting_iff s).mp ha
  have hnext : stimulusState (.sequencer (some c)) s = commandState (decodeCommand c) s.disableGate := by
    simp [stimulusState, sequencerState, phaseState, pollState, hr, hp, hd, hg]
  have hfeed : { s.feed (.sequencer (some c)) with gate := false } = s.disableGate.feed (.sequencer (some c)) := rfl
  rw [step_sequencer, hnext, hfeed, exec_command, handleCommand_eq, commandState_feed]
  rfl

/-- Settles O14: the lines of R68 are the branches of `decodeSequencer`. -/
theorem sequencerSelection : Obligations.SequencerSelection := by
  intro key s
  refine ⟨fun hhalt => ?_, fun hc hf => ?_⟩
  · have hr : s.running = false := by rcases hhalt with h | h <;> simp [State.running, h]
    exact ⟨by simp [select_sequencer, hr], by rw [step_sequencer, stimulusState, sequencerState_of_not_running hr]⟩
  · have hr : s.running = true := (running_iff s).mpr ⟨hc, hf⟩
    have hselect := select_sequencer key s
    rw [hr, if_pos rfl] at hselect
    refine ⟨fun hd => ?_, fun hd => ⟨fun hp => ⟨?_, ?_⟩, fun hp => ?_, fun hp => ?_, fun hp => ?_⟩⟩
    · simp [hselect, hd, decodeSequencer]
    · rw [hselect, hd, hp]; rfl
    · rintro c rfl hg
      exact step_keypoll_dispatches ((accepting_iff s).mpr ⟨hr, hp, hd, hg⟩) c
    all_goals rw [hselect, hd, hp]; rfl

/-! ### RUN -/

@[simp] theorem dutyDistance_self (a : Duty) : dutyDistance a a = 0 := by
  simp [dutyDistance]

/-- What PHASE adds to DLY in the count of R130. -/
theorem stepsToIdle_idle {s : State} (hp : s.phase = .idle) : s.stepsToIdle = s.dly := by
  simp [State.stepsToIdle, hp]

theorem stepsToIdle_ramp {s : State} (hp : s.phase = .ramp) :
    s.stepsToIdle = s.dly + (dutyDistance s.target s.duty * (1 + Config.rampStepDelay) + 1) := by
  simp [State.stepsToIdle, hp]

theorem stepsToIdle_stopRamp {s : State} (hp : s.phase = .stopRamp) :
    s.stepsToIdle = s.dly + (s.duty.toNat * (1 + Config.rampStepDelay) + 1) := by
  simp [State.stepsToIdle, hp]

theorem stepsToIdle_penalty {s : State} (hp : s.phase = .penalty) : s.stepsToIdle = s.dly + 1 := by
  simp [State.stepsToIdle, hp]

/-- The count of R130 is 0 exactly where the block is not busy. -/
theorem stepsToIdle_eq_zero_iff (s : State) : s.stepsToIdle = 0 ↔ s.busy = false := by
  rw [not_busy_iff]
  cases hp : s.phase with
  | idle => simp [stepsToIdle_idle hp]
  | ramp => simp [stepsToIdle_ramp hp]
  | stopRamp => simp [stepsToIdle_stopRamp hp]
  | penalty => simp [stepsToIdle_penalty hp]

/-- A hold takes one step off the count (R125). -/
theorem stepsToIdle_hold {s : State} (hd : s.dly ≠ 0) :
    State.stepsToIdle { s with dly := s.dly - 1 } + 1 = s.stepsToIdle := by
  simp only [State.stepsToIdle]
  omega

/-- A moving ramp step and the hold it loads are one of the count's units (R130). -/
theorem stepsToIdle_rampTo_of_ramp {s : State} (hd : s.dly = 0) (hp : s.phase = .ramp) (hne : s.duty ≠ s.target) :
    (s.rampTo (towards s.duty s.target)).stepsToIdle + 1 = s.stepsToIdle := by
  rw [stepsToIdle_ramp hp, stepsToIdle_ramp (s := s.rampTo _) hp, ← towards_distance hne]
  simp only [rampTo_dly, rampTo_target, rampTo_duty, hd]
  ring

theorem stepsToIdle_rampTo_of_stopRamp {s : State} (hd : s.dly = 0) (hp : s.phase = .stopRamp)
    (hne : s.duty ≠ 0#7) : (s.rampTo (s.duty - 1#7)).stepsToIdle + 1 = s.stepsToIdle := by
  have hpred : s.duty.toNat = (s.duty - 1#7).toNat + 1 := by
    have hpos : s.duty.toNat ≠ 0 := fun e => hne (BitVec.eq_of_toNat_eq e)
    rw [duty_pred_toNat hne]
    omega
  rw [stepsToIdle_stopRamp hp, stepsToIdle_stopRamp (s := s.rampTo _) hp, hpred]
  simp only [rampTo_dly, rampTo_duty, hd]
  ring

/-- Every sequencer step of a busy running block takes one off the count, whatever key is presented (R130). -/
theorem stepsToIdle_sequencerState {s : State} (hr : s.running = true) (hb : s.busy = true) (key : Option KeyCode) :
    (sequencerState key s).stepsToIdle + 1 = s.stepsToIdle := by
  have hbusy := (busy_iff s).mp hb
  rcases sequencerState_cases key s with
    ⟨hr', -⟩ | ⟨-, hd, e⟩ | ⟨-, hd, hp, -⟩ | ⟨ha, -⟩ | ⟨-, hd, hp, hne, e⟩ | ⟨-, hd, hp, heq, e⟩ | ⟨-, hd, hp, hne, e⟩ |
    ⟨-, hd, hp, heq, e⟩ | ⟨-, hd, hp, e⟩
  · simp [hr] at hr'
  · rw [e]; exact stepsToIdle_hold hd
  · simp [hp, hd] at hbusy
  · obtain ⟨-, hp, hd, -⟩ := (accepting_iff s).mp ha
    simp [hp, hd] at hbusy
  · rw [e]; exact stepsToIdle_rampTo_of_ramp hd hp hne
  · rw [e, stepsToIdle_idle rfl, stepsToIdle_ramp hp]; simp [hd, heq] -- RAMP_STEP, completion
  · rw [e]; exact stepsToIdle_rampTo_of_stopRamp hd hp hne
  · rw [e, stepsToIdle_idle rfl, stepsToIdle_stopRamp hp]; simp [hd, heq] -- STOP_STEP, completion
  · rw [e, stepsToIdle_idle rfl, stepsToIdle_penalty hp] -- PENALTY_EXIT

/-- As many STEPs as the count of R130 end with BUSY = 0. -/
theorem runUntilIdle_ends_idle {k : Nat} {s : State} (hr : s.running = true) (hk : s.stepsToIdle = k) :
    ∃ t, runUntilIdle k s = .next t ∧ t.busy = false := by
  induction k generalizing s with
  | zero => exact ⟨s, rfl, (stepsToIdle_eq_zero_iff s).mp hk⟩
  | succ k ih =>
    have hb : s.busy = true := by
      rw [← Bool.not_eq_false, ← stepsToIdle_eq_zero_iff]; omega
    have hcount := stepsToIdle_sequencerState hr hb none
    have hrun : (sequencerState none s).running = true :=
      (running_iff _).mpr (running_stimulusState (x := .sequencer none) (by simp) hr)
    simp only [runUntilIdle, hb, if_true, step_feed, stimulusState]
    exact ih hrun (by omega)

/-- Settles O49: RUN allows exactly the count of R130. -/
theorem runEndsIdle : Obligations.RunEndsIdle := fun _ hr => runUntilIdle_ends_idle hr rfl

end Sys2Proof.Machine
end

section
/-! Proofs of the statements about the tick source (spec 40_tick_source): the cases of CONFIGURE and of TICK, and by
induction over a run that no tick is lost and that maintenance comes once per limit. -/

namespace Sys2Proof.Machine

/-! ### CONFIGURE -/

theorem execConfigure_of_configured_or_fault {s : State} (h : s.configured = true ∨ s.fault = true) (sel : Selector)
    (lim : TickCount) : execConfigure sel lim s = .next s :=
  if_pos (by simpa using h)

theorem execConfigure_zero {s : State} (hc : s.configured = false) (hf : s.fault = false) (sel : Selector) :
    execConfigure sel 0#16 s = .next { s with fault := true } := by
  rw [execConfigure, if_neg (by simp [hc, hf]), if_pos rfl, State.raise]

theorem execConfigure_nonzero {s : State} {lim : TickCount} (hc : s.configured = false) (hf : s.fault = false)
    (hl : lim ≠ 0#16) (sel : Selector) :
    execConfigure sel lim s = .next { s with prescSel := sel, tickLimit := lim, configured := true } := by
  rw [execConfigure, if_neg (by simp [hc, hf]), if_neg hl]

/-- Settles O16. -/
theorem configureAccepted : Obligations.ConfigureAccepted := fun sel _ _ hc hf hl =>
  ⟨execConfigure_nonzero hc hf hl sel, (running_iff _).mpr ⟨rfl, hf⟩⟩

/-- Settles O17: the state it leaves is faulted, and a faulted block is halted until reset. -/
theorem configureZeroIsFatal : Obligations.ConfigureZeroIsFatal := fun sel _ hc hf =>
  ⟨execConfigure_zero hc hf sel, fun _ hx => by rw [step_feed, stimulusState_of_fault hx rfl], _, step_reset _, rfl⟩

/-- Settles O18. -/
theorem configureIgnored : Obligations.ConfigureIgnored := fun sel lim _ h =>
  execConfigure_of_configured_or_fault h sel lim

/-! ### TICK -/

/-- TICK, in every state (R82, R83). -/
theorem execTick_eq (s : State) : execTick s = .next (stimulusState .tick s) := by
  cases hr : s.running <;> simp [execTick, stimulusState, hr]

/-- Settles O19, by the cases of the tick step in which the block runs. -/
theorem tickCounts : Obligations.TickCounts := by
  intro s hc hf _
  have hr : s.running = true := (running_iff s).mpr ⟨hc, hf⟩
  rw [exec, execTick_eq]
  rcases tickState_cases s with ⟨hr', -⟩ | ⟨-, hlim, e⟩ | ⟨-, hne, e⟩
  · simp [hr] at hr'
  · exact ⟨fun _ => by rw [e], fun h => absurd hlim h⟩
  · have hsucc : BitVec.ofNat 16 (s.tickCnt.toNat + 1) = s.tickCnt + 1#16 := by simp [BitVec.ofNat_add]
    exact ⟨fun h => absurd h hne, fun _ => by rw [e, hsucc]⟩

/-- Settles O20. -/
theorem tickIgnored : Obligations.TickIgnored := by
  intro s hhalt
  have hr : s.running = false := by rcases hhalt with h | h <;> simp [State.running, h]
  rw [exec, execTick, if_neg (by simp [hr])]

/-! ### Maintenance once per limit -/

/-- From s to t the block counted k ticks: the limit stayed and bounds the count, each tick is in TICK_CNT or in a
completed interval of TICK_LIMIT ticks, which had its maintenance, and each was acknowledged (R85, R86). -/
structure State.TicksCounted (k : Nat) (s t : State) : Prop where
  limit : t.tickLimit = s.tickLimit
  below : t.tickCnt.toNat < s.tickLimit.toNat
  balance : t.tickCnt.toNat + s.tickLimit.toNat * t.trace.count .maint =
    s.tickCnt.toNat + s.tickLimit.toNat * s.trace.count .maint + k
  ack : t.trace.count .ack = s.trace.count .ack + k

theorem State.TicksCounted.refl {s : State} (h : s.tickCnt.toNat < s.tickLimit.toNat) : s.TicksCounted 0 s :=
  ⟨rfl, h, rfl, rfl⟩

theorem State.TicksCounted.trans {j k : Nat} {s t u : State} (h : s.TicksCounted j t) (h' : t.TicksCounted k u) :
    s.TicksCounted (j + k) u := by
  obtain ⟨hlimit, hbelow, hbalance, hack⟩ := h'
  rw [h.limit] at hlimit hbelow hbalance
  exact ⟨hlimit, hbelow, by rw [hbalance, h.balance, Nat.add_assoc], by rw [hack, h.ack, Nat.add_assoc]⟩

/-- The ticks counted are TICK_CNT and the completed intervals in base TICK_LIMIT. -/
theorem State.TicksCounted.mod_div {k : Nat} {s t : State} (h : s.TicksCounted k t) :
    t.tickCnt.toNat = (s.tickCnt.toNat + k) % s.tickLimit.toNat ∧
      t.trace.count .maint = s.trace.count .maint + (s.tickCnt.toNat + k) / s.tickLimit.toNat := by
  have hpos : 0 < s.tickLimit.toNat := Nat.zero_lt_of_lt h.below
  have hbalance := h.balance
  rw [Nat.add_right_comm] at hbalance
  constructor
  · calc t.tickCnt.toNat
        = (t.tickCnt.toNat + s.tickLimit.toNat * t.trace.count .maint) % s.tickLimit.toNat := by
          rw [Nat.add_mul_mod_self_left, Nat.mod_eq_of_lt h.below]
      _ = (s.tickCnt.toNat + k) % s.tickLimit.toNat := by rw [hbalance, Nat.add_mul_mod_self_left]
  · calc t.trace.count .maint
        = (t.tickCnt.toNat + s.tickLimit.toNat * t.trace.count .maint) / s.tickLimit.toNat := by
          rw [Nat.add_mul_div_left _ _ hpos, Nat.div_eq_of_lt h.below, Nat.zero_add]
      _ = s.trace.count .maint + (s.tickCnt.toNat + k) / s.tickLimit.toNat := by
          rw [hbalance, Nat.add_mul_div_left _ _ hpos, Nat.add_comm]

theorem tickState_ticksCounted {s : State} (hr : s.running = true) (h : s.tickCnt.toNat < s.tickLimit.toNat) :
    s.TicksCounted 1 (stimulusState .tick s) := by
  have hwidth := s.tickLimit.isLt
  rcases tickState_cases s with ⟨hr', -⟩ | ⟨-, hlim, e⟩ | ⟨-, hne, e⟩
  · simp [hr] at hr'
  · have hmaint : (s.trace ++ [Event.ack, .maint]).count .maint = s.trace.count .maint + 1 := by simp
    rw [e]
    refine ⟨rfl, Nat.zero_lt_of_lt h, ?_, by simp⟩
    rw [hmaint, BitVec.toNat_zero, Nat.mul_succ]
    omega
  · have hcnt : (BitVec.ofNat 16 (s.tickCnt.toNat + 1)).toNat = s.tickCnt.toNat + 1 := by
      rw [BitVec.toNat_ofNat, Nat.mod_eq_of_lt (by omega)]
    have hmaint : (s.trace ++ [Event.ack]).count .maint = s.trace.count .maint := by simp
    rw [e]
    refine ⟨rfl, ?_, ?_, by simp⟩
    · rw [hcnt]; omega
    · rw [hcnt, hmaint, Nat.add_right_comm]

/-- A sequencer step neither writes the tick's registers nor emits its events (R26, R91). -/
theorem sequencerState_ticksCounted {s : State} (h : s.tickCnt.toNat < s.tickLimit.toNat) (key : Option KeyCode) :
    s.TicksCounted 0 (sequencerState key s) := by
  have hf := sequencerState_frame key s
  obtain ⟨events, hevents, htrace⟩ := sequencerState_emits key s
  obtain ⟨hack, hmaint⟩ := hevents.count_tick_ports
  exact ⟨hf.tickLimit, by rw [hf.tickCnt]; exact h, by simp [hf.tickCnt, htrace, hmaint], by simp [htrace, hack]⟩

/-- One stimulus of a running block: a tick is counted, and nothing else is. -/
theorem stimulusState_ticksCounted {x : Stimulus} {s : State} (hx : x ≠ .reset) (hr : s.running = true)
    (h : s.tickCnt.toNat < s.tickLimit.toNat) : s.TicksCounted ([x].count .tick) (stimulusState x s) := by
  cases x with
  | reset => exact absurd rfl hx
  | configure w =>
    have e : stimulusState (.configure w) s = s := by simp [stimulusState, configureState, ((running_iff s).mp hr).1]
    rw [e]
    exact .refl h
  | tick => exact tickState_ticksCounted hr h
  | sequencer key => exact sequencerState_ticksCounted h key

theorem runStimuli_ticksCounted {xs : List Stimulus} {s t : State} (hxs : ∀ x ∈ xs, x ≠ .reset)
    (hr : s.running = true) (h : s.tickCnt.toNat < s.tickLimit.toNat) (hrun : runStimuli xs s = .next t) :
    s.TicksCounted (xs.count .tick) t := by
  induction xs generalizing s with
  | nil =>
    cases hrun
    exact .refl h
  | cons x xs ih =>
    obtain ⟨hx, hrest⟩ := List.forall_mem_cons.mp hxs
    have hstep := stimulusState_ticksCounted hx hr h
    have hr' : (stimulusState x s).running = true := (running_iff _).mpr (running_stimulusState hx hr)
    rw [runStimuli_cons] at hrun
    rw [← List.singleton_append, List.count_append]
    exact hstep.trans (ih hrest hr' (by rw [hstep.limit]; exact hstep.below) hrun)

/-- Settles O21: a run counts its ticks, and the count and the completed intervals are their remainder and quotient. -/
theorem maintenanceOncePerLimit : Obligations.MaintenanceOncePerLimit := by
  intro xs s t hc hf h hxs hrun
  have hcounted := runStimuli_ticksCounted hxs ((running_iff s).mpr ⟨hc, hf⟩) h hrun
  obtain ⟨hmod, hdiv⟩ := hcounted.mod_div
  exact ⟨hcounted.limit, hmod, hdiv, hcounted.ack⟩

end Sys2Proof.Machine
end

section
/-! Proofs of the statements about the input gate (spec 41_input_gate): what KEYPOLL does with a key and without one, and
by induction over a run that a closed gate stays closed until the next maintenance tick. -/

namespace Sys2Proof.Machine

/-! ### The poll -/

theorem execKeypoll_of_running {s : State} (hr : s.running = true) : execKeypoll s = .next (pollState s.keyPoll s) := by
  rw [execKeypoll_eq, if_pos hr]

theorem pollState_none (s : State) : pollState none s = s := by
  cases hg : s.gate <;> simp [pollState, hg]

theorem pollState_some {s : State} (hg : s.gate = true) (c : KeyCode) :
    pollState (some c) s = commandState (decodeCommand c) s.disableGate := by
  simp [pollState, hg]

theorem not_accepting_of_busy {s : State} (hb : s.phase ≠ .idle ∨ s.dly ≠ 0) : s.accepting = false := by
  refine Bool.eq_false_iff.mpr fun ha => ?_
  obtain ⟨-, hp, hd, -⟩ := (accepting_iff s).mp ha
  exact hb.elim (· hp) (· hd)

/-- Settles O23: KEYPOLL is the poll of a running block, and a busy block accepts no key, so it sees none. -/
theorem keypollPollsOnlyThroughAnOpenGate : Obligations.KeypollPollsOnlyThroughAnOpenGate := by
  intro s
  refine ⟨fun hhalt => ?_, fun hc hf => ?_, fun key hb => ?_⟩
  · have hr : s.running = false := by rcases hhalt with h | h <;> simp [State.running, h]
    rw [exec, execKeypoll_eq, if_neg (by simp [hr])]
  · have hr : s.running = true := (running_iff s).mpr ⟨hc, hf⟩
    rw [exec, execKeypoll_of_running hr]
    refine ⟨fun hg => ?_, fun _ hk => ?_, fun c hg hk => ?_⟩
    · rw [pollState_of_gate_closed hg]
    · rw [hk, pollState_none]
    · rw [hk, pollState_some hg, exec_command, handleCommand_eq, State.disableGate]
  · exact keysUnseenUnlessAccepting key none s (not_accepting_of_busy hb)

/-- Settles O25: the step of an accepting block is the poll. -/
theorem noKeyChangesNothing : Obligations.NoKeyChangesNothing := by
  refine fun s => ⟨rfl, fun ha => ?_⟩
  obtain ⟨hr, hp, hd, -⟩ := (accepting_iff s).mp ha
  have hpoll : sequencerState none s = pollState none s := by simp [sequencerState, phaseState, hr, hp, hd]
  rw [step_sequencer, stimulusState, hpoll, pollState_none]

/-! ### The cooldown -/

/-- The block runs with its gate closed, and n ticks complete the maintenance interval (R95). -/
structure State.Cooldown (n : Nat) (s : State) : Prop where
  running : s.running = true
  closed : s.gate = false
  left : s.tickCnt.toNat + n = s.tickLimit.toNat

theorem State.Cooldown.not_accepting {n : Nat} {s : State} (h : s.Cooldown n) : s.accepting = false := by
  refine Bool.eq_false_iff.mpr fun ha => ?_
  obtain ⟨-, -, -, hg⟩ := (accepting_iff s).mp ha
  simp [h.closed] at hg

/-- The tick that completes the interval opens the gate (R94). -/
theorem State.Cooldown.tick_opens {s : State} (h : s.Cooldown 1) : (stimulusState .tick s).gate = true := by
  obtain ⟨hc, hf⟩ := (running_iff s).mp h.running
  exact (tickState_gate_iff s).mpr (.inr ⟨hc, hf, h.left⟩)

/-- A stimulus that is not the tick completing the interval leaves the gate closed, and only a tick brings the end of
the cooldown nearer (R95). -/
theorem stimulusState_cooldown {n : Nat} {x : Stimulus} {s : State} (hx : x ≠ .reset) (hn : 0 < n)
    (h : s.Cooldown (n + [x].count .tick)) : (stimulusState x s).Cooldown n := by
  obtain ⟨hr, hg, hleft⟩ := h
  have hcounted := stimulusState_ticksCounted hx hr (by omega)
  have hcnt : (stimulusState x s).tickCnt.toNat = s.tickCnt.toNat + [x].count .tick := by
    rw [hcounted.mod_div.1, Nat.mod_eq_of_lt (by omega)]
  refine ⟨(running_iff _).mpr (running_stimulusState hx hr), Bool.eq_false_iff.mpr fun hopen => ?_, ?_⟩
  · obtain ⟨rfl, -, -, hlim⟩ := ((gateWriters x s _ hx (step_feed x s)).1 hg).mp hopen
    rw [List.count_singleton_self] at hleft
    omega
  · rw [hcnt, hcounted.limit]
    omega

theorem runStimuli_cooldown {n : Nat} {xs : List Stimulus} {s : State} (hxs : ∀ x ∈ xs, x ≠ .reset) (hn : 0 < n)
    (h : s.Cooldown (n + xs.count .tick)) : ∃ t, runStimuli xs s = .next t ∧ t.Cooldown n := by
  induction xs generalizing s with
  | nil => exact ⟨s, rfl, h⟩
  | cons x xs ih =>
    obtain ⟨hx, hrest⟩ := List.forall_mem_cons.mp hxs
    have hsplit : n + (x :: xs).count .tick = n + xs.count .tick + [x].count .tick := by
      rw [← List.singleton_append, List.count_append, Nat.add_comm ([x].count _), Nat.add_assoc]
    rw [hsplit] at h
    rw [runStimuli_cons]
    exact ih hrest (stimulusState_cooldown hx (by omega) h)

/-- Settles O28: the run ends in the cooldown that its ticks leave, and the last tick of a cooldown opens the gate. -/
theorem cooldownLastsToNextMaintenance : Obligations.CooldownLastsToNextMaintenance := by
  intro xs s hc hf hg _ hxs hticks
  have hleft : 0 < s.tickLimit.toNat - s.tickCnt.toNat - xs.count .tick := by omega
  obtain ⟨t, hrun, ht⟩ := runStimuli_cooldown hxs hleft ⟨(running_iff s).mpr ⟨hc, hf⟩, hg, by omega⟩
  refine ⟨t, hrun, ht.closed, ht.not_accepting, fun hlast => ⟨stimulusState .tick t, ?_, ?_⟩⟩
  · rw [runStimuli_append [.tick] hrun, runStimuli_cons, runStimuli_nil]
  · have hone : s.tickLimit.toNat - s.tickCnt.toNat - xs.count .tick = 1 := by omega
    rw [hone] at ht
    exact ht.tick_opens

end Sys2Proof.Machine
end

section
/-! Proofs of the statements about the drive commands (spec 42_drive_commands): the command rows in every state, the
outcome matrix of SET_SPEED, and the whole of a Bad Shift, of an Eco SET_SPEED and of a STOP, by induction over the
hold and over the ramp. -/

namespace Sys2Proof.Machine

/-! ### The handlers -/

/-- Settles O29: each handler writes the mode and emits its event. -/
theorem modeSelects : Obligations.ModeSelects := fun _ => ⟨rfl, rfl, rfl, rfl, rfl, rfl⟩

/-- Settles O30: the dispatch step only latches the ramp-down. -/
theorem stopDispatch : Obligations.StopDispatch := fun _ => rfl

/-- Settles O31: the baseline duty goes to DUTY and to the sink in one write. -/
theorem startWritesTheBaseline : Obligations.StartWritesTheBaseline := fun _ => rfl

/-- Settles O34: taking the exception is its diagnostic event and nothing else. -/
theorem unrecognizedIsLogged : Obligations.UnrecognizedIsLogged := fun _ _ => ⟨rfl, rfl⟩

/-! ### SET_SPEED -/

theorem setSpeedCodes : Claims.setSpeedCodes := ⟨rfl, rfl, rfl, rfl⟩

/-- The table of R105, as a list of the levels 1 to 5. -/
theorem dutyTable_of_getElem? {n : Nat} {d : Duty} (hd : [20#7, 25#7, 30#7, 40#7, 50#7][n - 1]? = some d)
    (hn : 1 ≤ n) : dutyTable n = some d := by
  obtain ⟨hlt, -⟩ := List.getElem?_eq_some_iff.mp hd
  have h5 : n ≤ 5 := by simp at hlt; omega
  rw [← hd]
  interval_cases n <;> rfl

theorem raise_badShift (s : State) : s.raise .badShift =
    { s with trace := s.trace ++ [.disp .badShift], dly := Config.badShiftDelay, phase := .penalty } := rfl

theorem raise_invalidDigit (n : KeyCode) (s : State) :
    s.raise (.invalidDigit n) = { s with trace := s.trace ++ [.log .invalidDigit n] } := rfl

theorem acceptSpeed_sport_eq {s : State} (hm : s.mode = .sport) (n : Level) (t : Duty) : s.acceptSpeed n t =
    { s with trace := s.trace ++ [.disp .clearProc, .pwm t], duty := t, pwmHeld := some t, speed := n } := by
  rw [acceptSpeed_sport hm]
  simp [State.driveDuty, State.pwmWrite, State.dispWrite, State.emit]

theorem acceptSpeed_eco_eq {s : State} (hm : s.mode = .eco) (n : Level) (t : Duty) : s.acceptSpeed n t =
    { s with trace := s.trace ++ [.disp .clearProc], target := t, pend := n, phase := .ramp } := by
  rw [acceptSpeed_eco hm]
  rfl

/-- Settles O32: both rows run the one rule of R104, whose outcomes are the branches. -/
theorem setSpeedRule : Obligations.SetSpeedRule := by
  refine ⟨setSpeedCodes, fun n s i hi => ?_⟩
  have hexec : exec i s = .next (s.requestSpeed n) := by rcases hi with rfl | rfl <;> rfl
  rw [hexec]
  refine ⟨fun hfar => ?_, fun hnear => ⟨fun hn => ?_, fun d hd hn => ?_⟩⟩
  · rw [requestSpeed_far hfar, raise_badShift]
  · rw [requestSpeed_none hnear ((dutyTable_none_iff _).mpr hn), raise_invalidDigit]
  · rw [requestSpeed_some hnear (dutyTable_of_getElem? hd hn)]
    exact ⟨fun hm => by rw [acceptSpeed_sport_eq hm]; rfl, fun hm => by rw [acceptSpeed_eco_eq hm]; rfl⟩

/-! ### The outcome matrix -/

/-- The matrix entry that the rule of R104 gives a level and a digit. -/
def ruleCell (speed n : Nat) : Claims.Cell :=
  if 1 < ((n : Int) - speed).natAbs then .bad
  else
    match dutyTable n with
    | none => .inv
    | some t => .ok t.toNat

/-- The fifty entries, each against the rule. -/
theorem entry_eq_ruleCell {speed n : Nat} (h1 : 1 ≤ speed) (h5 : speed ≤ 5) (h9 : n ≤ 9) :
    Claims.entry speed n = some (ruleCell speed n) := by
  interval_cases speed <;> interval_cases n <;> rfl

theorem commandState_digit {c : KeyCode} (h9 : c.toNat ≤ 9) (s : State) :
    commandState (decodeCommand c) s = s.requestSpeed c := by
  have hrow : decodeCommand c = .setSpeed c ∨ decodeCommand c = .setSpeedHigh c := by revert c; decide
  rcases hrow with h | h <;> rw [h] <;> rfl

theorem ruleCell_far {speed n : Nat} (h : 1 < ((n : Int) - speed).natAbs) : ruleCell speed n = .bad :=
  if_pos h

theorem ruleCell_none {speed n : Nat} (h : ((n : Int) - speed).natAbs ≤ 1) (ht : dutyTable n = none) :
    ruleCell speed n = .inv := by
  simp [ruleCell, Nat.not_lt.mpr h, ht]

theorem ruleCell_some {speed n : Nat} {t : Duty} (h : ((n : Int) - speed).natAbs ≤ 1) (ht : dutyTable n = some t) :
    ruleCell speed n = .ok t.toNat := by
  simp [ruleCell, Nat.not_lt.mpr h, ht]

/-- SET_SPEED shows the rule's entry, outcome by outcome. -/
theorem shows_ruleCell (c : KeyCode) (s : State) :
    Claims.shows (ruleCell s.speed.toNat c.toNat) c s (s.requestSpeed c) := by
  rcases requestSpeed_cases c s with ⟨hfar, e⟩ | ⟨hnear, ht, e⟩ | ⟨hnear, t, ht, e⟩ <;> rw [e]
  · rw [ruleCell_far (n := c.toNat) hfar]
    exact raise_badShift s
  · rw [ruleCell_none (n := c.toNat) hnear ht]
    exact raise_invalidDigit c s
  · have hduty : BitVec.ofNat 7 t.toNat = t := by simp
    rw [ruleCell_some (n := c.toNat) hnear ht, Claims.shows, hduty]
    exact ⟨fun hm => acceptSpeed_sport_eq hm _ t, fun hm => acceptSpeed_eco_eq hm _ t⟩

/-- Settles O33: the matrix is the rule of R104 at its fifty places. -/
theorem setSpeedOutcomeMatrix : Obligations.SetSpeedOutcomeMatrix := by
  refine ⟨setSpeedCodes, fun c s cell h1 h5 h9 hcell => ⟨s.requestSpeed c, ?_, ?_⟩⟩
  · rw [exec_command, handleCommand_eq, commandState_digit h9]
  · rw [entry_eq_ruleCell h1 h5 h9] at hcell
    obtain rfl := Option.some.inj hcell
    exact shows_ruleCell c s

/-! ### Runs of sequencer steps -/

/-- k sequencer steps lead from s to t, whatever keys are presented meanwhile. -/
def State.LeadsIn (k : Nat) (s t : State) : Prop :=
  ∀ keys : List (Option KeyCode), keys.length = k → runStimuli (keys.map .sequencer) s = .next t

theorem State.LeadsIn.refl (s : State) : s.LeadsIn 0 s := by
  intro keys hk
  rw [List.length_eq_zero_iff.mp hk]
  rfl

theorem State.LeadsIn.trans {j k : Nat} {s t u : State} (h : s.LeadsIn j t) (h' : t.LeadsIn k u) :
    s.LeadsIn (j + k) u := by
  intro keys hkeys
  rw [← List.take_append_drop j keys, List.map_append, runStimuli_append _ (h _ (by simp; omega))]
  exact h' _ (by simp; omega)

theorem State.LeadsIn.of_step {s t : State} (h : ∀ key, sequencerState key s = t) : s.LeadsIn 1 t := by
  intro keys hkeys
  obtain ⟨key, rfl⟩ := List.length_eq_one_iff.mp hkeys
  rw [List.map_singleton, runStimuli_cons, stimulusState, h]
  rfl

theorem sequencerState_hold {s : State} (hr : s.running = true) (hd : s.dly ≠ 0) (key : Option KeyCode) :
    sequencerState key s = { s with dly := s.dly - 1 } := by
  simp [sequencerState, hr, hd]

theorem sequencerState_of_dly_zero {s : State} (hr : s.running = true) (hd : s.dly = 0) (key : Option KeyCode) :
    sequencerState key s = phaseState key s := by
  simp [sequencerState, hr, hd]

/-- k steps inside a hold take k off DLY and change nothing else (R125). -/
theorem leadsIn_hold {k : Nat} {s : State} (hr : s.running = true) (hk : k ≤ s.dly) :
    s.LeadsIn k { s with dly := s.dly - k } := by
  induction k generalizing s with
  | zero => exact .refl s
  | succ k ih =>
    have hstep : s.LeadsIn 1 { s with dly := s.dly - 1 } := .of_step (sequencerState_hold hr (by omega))
    have hrest := ih (s := { s with dly := s.dly - 1 }) hr (by simp only; omega)
    rw [Nat.add_comm k 1, Nat.sub_add_eq]
    exact hstep.trans hrest

/-- The first step of a run in which an accepting block takes a key: GATE closes and the key's command runs
(R90, R91). -/
theorem sequencerState_accepting {s : State} (ha : s.accepting = true) (c : KeyCode) :
    sequencerState (some c) s = commandState (decodeCommand c) s.disableGate := by
  obtain ⟨hr, hp, hd, hg⟩ := (accepting_iff s).mp ha
  rw [sequencerState_of_dly_zero hr hd, phaseState, hp]
  exact pollState_some hg c

/-- A key an accepting block takes, and what its command leads to. -/
theorem runStimuli_command {s t u : State} {k : Nat} {c : KeyCode} (ha : s.accepting = true)
    (hcmd : commandState (decodeCommand c) s.disableGate = t) (hlead : t.LeadsIn k u) {keys : List (Option KeyCode)}
    (hkeys : keys.length = k) : runStimuli (.sequencer (some c) :: keys.map .sequencer) s = .next u := by
  rw [runStimuli_cons, stimulusState, sequencerState_accepting ha, hcmd]
  exact hlead keys hkeys

/-! ### A Bad Shift -/

/-- The hold of a Bad Shift and PENALTY_EXIT (R124, R125). -/
theorem leadsIn_penalty {s : State} (hr : s.running = true) (hp : s.phase = .penalty) :
    s.LeadsIn (s.dly + 1) { s with dly := 0, phase := .idle } := by
  have hhold := leadsIn_hold hr (le_refl s.dly)
  rw [Nat.sub_self] at hhold
  refine hhold.trans (.of_step fun key => ?_)
  rw [sequencerState_of_dly_zero (s := { s with dly := 0 }) hr rfl]
  simp [phaseState, hp, State.returnToIdle]

/-- Settles O47: the command takes the exception, and the penalty ends in the drive state it was taken in. -/
theorem badShiftLeavesDriveState : Obligations.BadShiftLeavesDriveState := by
  refine ⟨setSpeedCodes, fun c keys s ha h9 hfar hkeys => ?_⟩
  obtain ⟨hr, hp, hd, -⟩ := (accepting_iff s).mp ha
  have hcmd : commandState (decodeCommand c) s.disableGate = s.disableGate.raise .badShift := by
    rw [commandState_digit h9, requestSpeed_far (s := s.disableGate) hfar]
  rw [runStimuli_command ha hcmd (leadsIn_penalty (s := s.disableGate.raise .badShift) hr rfl) hkeys, raise_badShift]
  simp [State.disableGate, hp, hd]

/-! ### The events of a ramp -/

theorem rampValues_self (a : Nat) : rampValues a a = [] := by
  simp [rampValues]

theorem rampValues_up {a b : Nat} (h : a ≤ b) :
    rampValues a b = (List.range (b - a)).map (fun k => a + 1 + k) := if_pos h

theorem rampValues_down {a b : Nat} (h : b ≤ a) :
    rampValues a b = (List.range (a - b)).map (fun k => a - 1 - k) := by
  obtain rfl | hlt := h.eq_or_lt
  · simp [rampValues]
  · exact if_neg (by omega)

/-- The first value of a ramp up, and the rest. -/
theorem rampValues_of_lt {a b : Nat} (h : a < b) : rampValues a b = (a + 1) :: rampValues (a + 1) b := by
  have hlen : b - a = b - (a + 1) + 1 := by omega
  rw [rampValues_up h.le, rampValues_up h, hlen, List.range_succ_eq_map, List.map_cons, List.map_map]
  refine List.cons_eq_cons.mpr ⟨rfl, List.map_congr_left fun k _ => ?_⟩
  simp only [Function.comp_apply]
  omega

/-- The first value of a ramp down, and the rest. -/
theorem rampValues_of_gt {a b : Nat} (h : b < a) : rampValues a b = (a - 1) :: rampValues (a - 1) b := by
  have hlen : a - b = a - 1 - b + 1 := by omega
  rw [rampValues_down h.le, rampValues_down (show b ≤ a - 1 by omega), hlen, List.range_succ_eq_map, List.map_cons,
    List.map_map]
  refine List.cons_eq_cons.mpr ⟨rfl, List.map_congr_left fun k _ => ?_⟩
  simp only [Function.comp_apply]
  omega

theorem rampEvents_self (a : Duty) : rampEvents a a = [] := by
  simp [rampEvents, rampValues_self]

/-- A ramp's first event is the unit step towards its goal, and the rest is the ramp from there (R126). -/
theorem rampEvents_of_ne {a b : Duty} (h : a ≠ b) :
    rampEvents a b = .pwm (towards a b) :: rampEvents (towards a b) b := by
  have hne : a.toNat ≠ b.toNat := fun e => h (BitVec.eq_of_toNat_eq e)
  have hvalues : rampValues a.toNat b.toNat = (towards a b).toNat :: rampValues (towards a b).toNat b.toNat := by
    rcases Nat.lt_or_gt_of_ne hne with hup | hdown
    · rw [rampValues_of_lt hup, towards_of_lt hup]
    · rw [rampValues_of_gt hdown, towards_of_gt hdown]
  simp [rampEvents, hvalues]

/-! ### A ramp -/

/-- A running block in a ramp to TARGET, outside a hold; the ramp of STOP has the target 0 (R102). -/
structure State.Ramping (s : State) : Prop where
  running : s.running = true
  noHold : s.dly = 0
  inRamp : s.phase = .ramp ∨ (s.phase = .stopRamp ∧ s.target = 0#7)

/-- The state in which DUTY has come to TARGET by unit steps, each written to the sink (R126). -/
def State.ramped (s : State) : State :=
  { s with
    duty := s.target, trace := s.trace ++ rampEvents s.duty s.target,
    pwmHeld := if s.duty = s.target then s.pwmHeld else some s.target }

/-- Nothing is left of a ramp whose DUTY is at TARGET. -/
theorem ramped_of_eq {s : State} (h : s.duty = s.target) : s.ramped = s := by
  cases s
  cases h
  simp [State.ramped, rampEvents_self]

/-- A unit step is the first part of the ramp. -/
theorem ramped_driveDuty {s : State} (h : s.duty ≠ s.target) :
    (s.driveDuty (towards s.duty s.target)).ramped = s.ramped := by
  by_cases hend : towards s.duty s.target = s.target <;> simp [State.ramped, rampEvents_of_ne h, h, hend]

theorem towards_zero (a : Duty) : towards a 0#7 = a - 1#7 := by
  simp [towards, BitVec.lt_def]

/-- Both ramps move by the same step (R120, R122). -/
theorem State.Ramping.sequencerState_moving {s : State} (h : s.Ramping) (hne : s.duty ≠ s.target)
    (key : Option KeyCode) : sequencerState key s = s.rampTo (towards s.duty s.target) := by
  rw [sequencerState_of_dly_zero h.running h.noHold]
  rcases h.inRamp with hp | ⟨hp, htarget⟩
  · simp [phaseState, hp, hne]
  · rw [htarget] at hne
    simp [phaseState, hp, hne, htarget, towards_zero]

/-- A moving step and the hold it loads: one unit of R130. -/
theorem State.Ramping.leadsIn_unit {s : State} (h : s.Ramping) (hne : s.duty ≠ s.target) :
    s.LeadsIn (1 + Config.rampStepDelay) (s.driveDuty (towards s.duty s.target)) := by
  have hhold := leadsIn_hold (s := s.rampTo (towards s.duty s.target)) h.running (le_refl Config.rampStepDelay)
  have hend : { s.rampTo (towards s.duty s.target) with dly := Config.rampStepDelay - Config.rampStepDelay } =
      s.driveDuty (towards s.duty s.target) := by
    simp [State.rampTo, State.driveDuty, State.pwmWrite, State.emit, h.noHold]
  rw [← hend]
  exact State.LeadsIn.trans (.of_step (h.sequencerState_moving hne)) hhold

/-- A ramp takes DUTY to TARGET in one unit of steps for each unit of distance (R126, R130). -/
theorem State.Ramping.leadsIn_ramped {n : Nat} {s : State} (h : s.Ramping) (hn : dutyDistance s.target s.duty = n) :
    s.LeadsIn (n * (1 + Config.rampStepDelay)) s.ramped := by
  induction n generalizing s with
  | zero =>
    have heq : s.duty = s.target := BitVec.eq_of_toNat_eq (by unfold dutyDistance at hn; omega)
    rw [ramped_of_eq heq, Nat.zero_mul]
    exact .refl s
  | succ n ih =>
    have hne : s.duty ≠ s.target := fun e => by simp [e] at hn
    have hdist := towards_distance hne
    have hrest := ih (s := s.driveDuty (towards s.duty s.target)) ⟨h.running, h.noHold, h.inRamp⟩ (by
      simp only [driveDuty_target, driveDuty_duty]; omega)
    rw [ramped_driveDuty hne] at hrest
    rw [Nat.succ_mul, Nat.add_comm]
    exact (h.leadsIn_unit hne).trans hrest

/-! ### An Eco SET_SPEED and a STOP -/

/-- A ramp of SET_SPEED and its completion (R121). -/
theorem leadsIn_ramp_completed {s : State} (h : s.Ramping) (hp : s.phase = .ramp) :
    s.LeadsIn (dutyDistance s.target s.duty * (1 + Config.rampStepDelay) + 1)
      { s.ramped with speed := s.pend, phase := .idle } := by
  refine (h.leadsIn_ramped rfl).trans (.of_step fun key => ?_)
  rw [sequencerState_of_dly_zero (s := s.ramped) h.running h.noHold]
  simp [phaseState, State.ramped, hp]

/-- A ramp of STOP and its completion, the forced 0 (R123). -/
theorem leadsIn_stop_completed {s : State} (h : s.Ramping) (hp : s.phase = .stopRamp) (htarget : s.target = 0#7) :
    s.LeadsIn (s.duty.toNat * (1 + Config.rampStepDelay) + 1)
      { (s.ramped.driveDuty 0#7).dispWrite .stopped with speed := baseLevel, phase := .idle } := by
  refine State.LeadsIn.trans (h.leadsIn_ramped (by simp [dutyDistance, htarget])) (.of_step fun key => ?_)
  rw [sequencerState_of_dly_zero (s := s.ramped) h.running h.noHold]
  simp [phaseState, State.ramped, hp, htarget]

/-- An accepted Eco SET_SPEED latches the operands of its ramp (R104). -/
theorem commandState_eco {c : KeyCode} {s : State} {t : Duty} (hm : s.mode = .eco)
    (hnear : levelDistance (digit c) s.speed ≤ 1) (ht : dutyTable (digit c) = some t) :
    commandState (decodeCommand c) s =
      { s with trace := s.trace ++ [.disp .clearProc], target := t, pend := levelOf c, phase := .ramp } := by
  have h9 : digit c ≤ 9 := (digit_legal ht).2.trans (by decide)
  rw [commandState_digit h9, requestSpeed_some hnear ht, acceptSpeed_eco_eq hm]

/-- Settles O45: the command latches the ramp's operands, and the ramp and its completion are one run. -/
theorem ecoSpeedChange : Obligations.EcoSpeedChange := by
  refine ⟨setSpeedCodes, fun n d keys s ha hm hd hn hnear hkeys => ?_⟩
  obtain ⟨hr, hp, hdly, -⟩ := (accepting_iff s).mp ha
  have ht := dutyTable_of_getElem? hd hn
  have hcmd := commandState_eco (s := s.disableGate) hm hnear ht
  rw [runStimuli_command ha hcmd (leadsIn_ramp_completed ⟨hr, hdly, .inl rfl⟩ rfl) hkeys]
  simp [State.ramped, State.disableGate, hp, levelOf, digit]

/-- Settles O46: STOP latches the ramp to 0, and the ramp-down and its completion are one run. -/
theorem stopDrivesDutyToZero : Obligations.StopDrivesDutyToZero := by
  intro keys s ha hkeys
  obtain ⟨hr, hp, hdly, -⟩ := (accepting_iff s).mp ha
  have hcmd : commandState (decodeCommand 0xC#4) s.disableGate =
      { s.disableGate with target := 0#7, phase := .stopRamp } := rfl
  rw [runStimuli_command ha hcmd (leadsIn_stop_completed ⟨hr, hdly, .inr ⟨rfl, rfl⟩⟩ rfl rfl) hkeys]
  simp [State.ramped, State.disableGate, hp, State.driveDuty, State.pwmWrite, State.dispWrite, State.emit, baseLevel]

end Sys2Proof.Machine
end

section
/-! Proofs of the statements about the duty ramp (spec 43_duty_ramp): the sequencer's rows, what one step of a ramp does to
DUTY, the transitions of PHASE, and by induction over a run that every command ends after the count of R130. -/

namespace Sys2Proof.Machine

/-! ### The sequencer's rows -/

theorem exec_rampStep (s : State) : exec .rampStep s = execRampStep s := rfl

theorem exec_stopStep (s : State) : exec .stopStep s = execStopStep s := rfl

/-- A moving step writes DUTY and the sink, and loads the hold; nothing else (R120, R122). -/
theorem rampTo_eq (d : Duty) (s : State) : s.rampTo d =
    { s with duty := d, pwmHeld := some d, trace := s.trace ++ [.pwm d], dly := Config.rampStepDelay } := rfl

/-- The direction is chosen from the comparison, and neither direction wraps (R120, R131). -/
theorem towards_toNat {a b : Duty} (h : a ≠ b) :
    (towards a b).toNat = if a.toNat < b.toNat then a.toNat + 1 else a.toNat - 1 := by
  split
  case isTrue hup => exact towards_of_lt hup
  case isFalse hdown =>
    have hne : a.toNat ≠ b.toNat := fun e => h (BitVec.eq_of_toNat_eq e)
    exact towards_of_gt (by omega)

/-- Settles O36: the moving branch, with the unit step on numbers. -/
theorem rampStepMovesOneUnit : Obligations.RampStepMovesOneUnit := by
  intro s hne
  exact ⟨towards s.duty s.target, towards_toNat hne, by rw [exec_rampStep, execRampStep, if_pos hne, rampTo_eq]⟩

/-- Settles O37: the completion writes TARGET to a DUTY that is equal to it. -/
theorem rampStepCompletes : Obligations.RampStepCompletes := by
  intro s heq
  rw [exec_rampStep, execRampStep, if_neg (not_not.mpr heq), ← heq]

/-- Settles O38: the moving branch, and DUTY - 1 of a DUTY that is not 0 does not wrap. -/
theorem stopStepMovesDown : Obligations.StopStepMovesDown := by
  intro s hne
  refine ⟨s.duty - 1#7, ?_, by rw [exec_stopStep, execStopStep, if_pos hne, rampTo_eq]⟩
  have hpos : s.duty.toNat ≠ 0 := fun e => hne (BitVec.eq_of_toNat_eq e)
  rw [duty_pred_toNat hne]
  omega

/-- Settles O39: the completion's writes, in the order of R123. -/
theorem stopStepCompletes : Obligations.StopStepCompletes := by
  intro s heq
  refine ⟨?_, rfl⟩
  rw [exec_stopStep, execStopStep, if_neg (not_not.mpr heq)]
  simp [State.driveDuty, State.pwmWrite, State.dispWrite, State.emit, baseLevel]

/-- Settles O40. -/
theorem penaltyExitReturnsToIdle : Obligations.PenaltyExitReturnsToIdle := fun _ => rfl

/-- Settles O41: DLY_HOLD by its definition, and a run of holds by `leadsIn_hold`. -/
theorem holdLastsDlySteps : Obligations.HoldLastsDlySteps :=
  ⟨fun _ _ _ => rfl, fun keys s hc hf hkeys => leadsIn_hold ((running_iff s).mpr ⟨hc, hf⟩) hkeys keys rfl⟩

/-! ### DUTY in a ramp -/

/-- Both ramps end with DUTY at TARGET: PHASE returns to IDLE, and DUTY and TARGET stay (R121, R123). -/
theorem State.Ramping.sequencerState_completed {s : State} (h : s.Ramping) (heq : s.duty = s.target)
    (key : Option KeyCode) :
    (sequencerState key s).phase = .idle ∧ (sequencerState key s).duty = s.duty ∧
      (sequencerState key s).target = s.target := by
  rw [sequencerState_of_dly_zero h.running h.noHold]
  rcases h.inRamp with hp | ⟨hp, htarget⟩
  · simp [phaseState, hp, heq]
  · simp [phaseState, hp, heq, htarget]

/-- Settles O42: off the goal the step is the unit step of `towards`, at the goal it is the completion. -/
theorem rampsConvergeByUnits : Obligations.RampsConvergeByUnits := by
  intro key s t hc hf hd hp hstep
  obtain rfl : sequencerState key s = t := by simpa [step_feed, stimulusState] using hstep
  have hramp : s.Ramping := ⟨(running_iff s).mpr ⟨hc, hf⟩, hd, hp⟩
  by_cases heq : s.duty = s.target
  · obtain ⟨hphase, hduty, htarget⟩ := hramp.sequencerState_completed heq key
    exact ⟨htarget, fun hne => absurd heq hne, fun _ => ⟨hphase, hduty⟩⟩
  · rw [hramp.sequencerState_moving heq key]
    refine ⟨rfl, fun _ => ⟨rfl, towards_distance heq, fun hup => ?_, fun hdown => ?_, rfl⟩, fun e => absurd e heq⟩
    · rw [rampTo_duty, towards_of_lt hup]; omega
    · rw [rampTo_duty, towards_of_gt hdown]; omega

/-- A unit step is one unit long. -/
theorem dutyDistance_towards {a b : Duty} (h : a ≠ b) : dutyDistance (towards a b) a = 1 := by
  have hne : a.toNat ≠ b.toNat := fun e => h (BitVec.eq_of_toNat_eq e)
  rw [dutyDistance, towards_toNat h]
  split <;> omega

/-- The only steps of a ramp that change DUTY are the moving ones, outside a hold and by one unit (R120, R122). -/
theorem sequencerState_moves {key : Option KeyCode} {s : State} (hp : s.phase = .ramp ∨ s.phase = .stopRamp)
    (hne : (sequencerState key s).duty ≠ s.duty) :
    s.dly = 0 ∧ ∃ d, dutyDistance d s.duty = 1 ∧ sequencerState key s = s.rampTo d := by
  rcases sequencerState_cases key s with
    ⟨-, e⟩ | ⟨-, -, e⟩ | ⟨-, -, -, -, e⟩ | ⟨ha, -⟩ | ⟨-, hd, -, hmove, e⟩ | ⟨-, -, -, -, e⟩ | ⟨-, hd, -, hmove, e⟩ |
    ⟨-, -, -, heq, e⟩ | ⟨-, -, -, e⟩
  case inr.inr.inr.inl => -- a key is taken in IDLE only
    obtain ⟨-, hidle, -, -⟩ := (accepting_iff s).mp ha
    simp [hidle] at hp
  case inr.inr.inr.inr.inl => exact ⟨hd, _, dutyDistance_towards hmove, e⟩ -- RAMP_STEP, moving
  case inr.inr.inr.inr.inr.inr.inl => -- STOP_STEP, moving
    exact ⟨hd, _, dutyDistance_towards hmove, by rw [e, towards_zero]⟩
  case inr.inr.inr.inr.inr.inr.inr.inl => rw [e] at hne; exact absurd heq.symm hne -- the forced 0
  all_goals rw [e] at hne; exact absurd rfl hne

/-- Settles O43: a step that changes DUTY is a sequencer step, and so a moving one. -/
theorem boundedSlewInRamps : Obligations.BoundedSlewInRamps := by
  intro x s t hx hp hstep
  obtain rfl : stimulusState x s = t := by simpa [step_feed] using hstep
  by_cases hduty : (stimulusState x s).duty = s.duty
  · exact ⟨by simp [hduty], fun hne => absurd hduty hne⟩
  · obtain ⟨key, rfl⟩ : ∃ key, x = .sequencer key := by
      by_contra hseq
      exact hduty (stimulusState_driveFrame hx (fun key h => hseq ⟨key, h⟩) s).duty
    obtain ⟨hd, d, hunit, e⟩ := sequencerState_moves hp hduty
    rw [stimulusState, e]
    exact ⟨hunit.le, fun _ => ⟨hd, rfl, rfl⟩⟩

/-! ### The transitions of PHASE -/

theorem stepsInPhase_iff (x : Stimulus) (s : State) :
    Claims.stepsInPhase x s ↔ (∃ key, x = .sequencer key) ∧ s.running = true ∧ s.dly = 0 := by
  rw [Claims.stepsInPhase, running_iff, and_assoc]

/-- A step in which PHASE selects no operation leaves PHASE as it is (R68, R132). -/
theorem stimulusState_phase_of_not_stepsInPhase {x : Stimulus} {s : State} (hx : x ≠ .reset)
    (h : ¬Claims.stepsInPhase x s) : (stimulusState x s).phase = s.phase := by
  rw [stepsInPhase_iff] at h
  by_cases hseq : ∃ key, x = .sequencer key
  · obtain ⟨key, rfl⟩ := hseq
    rw [stimulusState]
    by_cases hr : s.running = true
    · have hd : s.dly ≠ 0 := fun hd => h ⟨⟨key, rfl⟩, hr, hd⟩
      rw [sequencerState_hold hr hd]
    · rw [sequencerState_of_not_running (Bool.eq_false_iff.mpr hr)]
  · exact (stimulusState_driveFrame hx (fun key e => hseq ⟨key, e⟩) s).phase

theorem stepsInPhase_of_accepting {s : State} (ha : s.accepting = true) (key : Option KeyCode) :
    Claims.stepsInPhase (.sequencer key) s := by
  obtain ⟨hr, -, hd, -⟩ := (accepting_iff s).mp ha
  exact (stepsInPhase_iff _ s).mpr ⟨⟨key, rfl⟩, hr, hd⟩

/-- Every row of the table of R132 that leaves a PHASE is an operation PHASE selects. -/
theorem stepsInPhase_of_phaseMoves {x : Stimulus} {s : State} {q : Phase} (h : Claims.phaseMoves x s q) :
    Claims.stepsInPhase x s := by
  unfold Claims.phaseMoves at h
  split at h
  · obtain ⟨c, rfl, ha, -⟩ := h -- IDLE to RAMP
    exact stepsInPhase_of_accepting ha _
  · obtain ⟨c, rfl, ha, -⟩ := h -- IDLE to PENALTY
    exact stepsInPhase_of_accepting ha _
  · obtain ⟨rfl, ha⟩ := h -- IDLE to STOP_RAMP
    exact stepsInPhase_of_accepting ha _
  · exact h.1 -- RAMP to IDLE
  · exact h.1 -- STOP_RAMP to IDLE
  · exact h -- PENALTY to IDLE
  all_goals exact h.elim

/-- The keys whose command leaves IDLE, and the PHASE each enters (R102, R104). -/
theorem commandState_phase_iff {c : KeyCode} {s : State} {q : Phase} (hp : s.phase = .idle) (hq : q ≠ .idle) :
    (commandState (decodeCommand c) s).phase = q ↔
      (q = .ramp ∧ 1 ≤ c.toNat ∧ c.toNat ≤ 5 ∧ levelDistance (digit c) s.speed ≤ 1 ∧ s.mode = .eco) ∨
      (q = .penalty ∧ c.toNat ≤ 9 ∧ 1 < levelDistance (digit c) s.speed) ∨
      (q = .stopRamp ∧ c = 0xC#4) := by
  have hstop : c = 0xC#4 ↔ c.toNat = 12 := BitVec.toNat_inj.symm
  have hstays : Phase.idle = q ↔ False := by simp [hq.symm]
  rcases commandState_cases c s with
    ⟨h9, hfar, e⟩ | ⟨h9, hnear, ht, e⟩ | ⟨h9, hnear, hm, t, -, e⟩ | ⟨h9, hnear, hm, t, ht, e⟩ | ⟨hc, e⟩ | ⟨hc, e⟩ |
    ⟨hc, e⟩ | ⟨hc, e⟩ | ⟨hc, e⟩ <;> rw [e]
  · -- Bad Shift
    have hne : c.toNat ≠ 12 := by omega
    simp [hstop, h9, hfar, hne, eq_comm]
  · -- an invalid digit is no level
    have hlevel : ¬(1 ≤ c.toNat ∧ c.toNat ≤ 5) := (dutyTable_none_iff _).mp ht
    have hne : c.toNat ≠ 12 := by omega
    have hfar : ¬1 < levelDistance (digit c) s.speed := hnear.not_gt
    simp only [hp, hstays, hstop]
    tauto
  · -- the Sport snap
    have hne : c.toNat ≠ 12 := by omega
    simp [hp, hstays, hstop, hm, hne, hnear.not_gt]
  · -- the start of an Eco ramp
    obtain ⟨hlow, hhigh⟩ : 1 ≤ c.toNat ∧ c.toNat ≤ 5 := digit_legal ht
    have hne : c.toNat ≠ 12 := by omega
    simp [hstop, hlow, hhigh, hnear, hm, hne, eq_comm]
  · simp [hp, hstays, hc, digit, levelDistance] -- SELECT_ECO
  · simp [hp, hstays, hc, digit, levelDistance] -- SELECT_SPORT
  · simp [hc, eq_comm] -- the start of a stop
  · simp [hp, hstays, hc, digit, levelDistance] -- START
  · -- an unrecognised code
    have hdigit : ¬c.toNat ≤ 5 ∧ ¬c.toNat ≤ 9 ∧ c.toNat ≠ 12 := by omega
    simp [hp, hstays, hstop, hdigit]

/-- The rows of R132 that leave IDLE, as the poll and the command it dispatches (R90). -/
theorem phaseMoves_idle_iff {x : Stimulus} {s : State} {q : Phase} (hp : s.phase = .idle) (hq : q ≠ .idle) :
    Claims.phaseMoves x s q ↔ ∃ c, x = .sequencer (some c) ∧ s.accepting = true ∧
      (commandState (decodeCommand c) s.disableGate).phase = q := by
  simp only [commandState_phase_iff (s := s.disableGate) hp hq]
  cases q with
  | idle => exact absurd rfl hq
  | ramp => simp [Claims.phaseMoves, hp, levelDistance, digit]
  | stopRamp => simp [Claims.phaseMoves, hp]
  | penalty => simp [Claims.phaseMoves, hp, levelDistance, digit]

/-- The one row of R132 that leaves each busy PHASE. -/
theorem phaseMoves_ramp_iff {x : Stimulus} {s : State} {q : Phase} (hp : s.phase = .ramp) :
    Claims.phaseMoves x s q ↔ q = .idle ∧ Claims.stepsInPhase x s ∧ s.duty = s.target := by
  cases q <;> simp [Claims.phaseMoves, hp]

theorem phaseMoves_stopRamp_iff {x : Stimulus} {s : State} {q : Phase} (hp : s.phase = .stopRamp) :
    Claims.phaseMoves x s q ↔ q = .idle ∧ Claims.stepsInPhase x s ∧ s.duty = 0#7 := by
  cases q <;> simp [Claims.phaseMoves, hp]

theorem phaseMoves_penalty_iff {x : Stimulus} {s : State} {q : Phase} (hp : s.phase = .penalty) :
    Claims.phaseMoves x s q ↔ q = .idle ∧ Claims.stepsInPhase x s := by
  cases q <;> simp [Claims.phaseMoves, hp]

/-- Where PHASE selects the operation, the step makes exactly the transitions of R132. -/
theorem phaseState_phase_iff {key : Option KeyCode} {s : State} {q : Phase}
    (h : Claims.stepsInPhase (.sequencer key) s) (hq : q ≠ s.phase) :
    (phaseState key s).phase = q ↔ Claims.phaseMoves (.sequencer key) s q := by
  obtain ⟨-, hr, hd⟩ := (stepsInPhase_iff _ s).mp h
  cases hp : s.phase with
  | idle =>
    rw [hp] at hq
    rw [phaseMoves_idle_iff hp hq, phaseState, hp]
    by_cases hg : s.gate = true
    · have ha : s.accepting = true := (accepting_iff s).mpr ⟨hr, hp, hd, hg⟩
      cases key with
      | none => simp [pollState_none, hp, hq.symm]
      | some c => simp [pollState_some hg, ha]
    · have ha : s.accepting = false := Bool.eq_false_iff.mpr fun ha => hg ((accepting_iff s).mp ha).2.2.2
      simp [pollState_of_gate_closed (Bool.eq_false_iff.mpr hg), hp, hq.symm, ha]
  | ramp =>
    rw [hp] at hq
    rw [phaseMoves_ramp_iff hp]
    by_cases hgoal : s.duty = s.target
    · simp [phaseState, hp, hgoal, h, eq_comm]
    · simp [phaseState, hp, hgoal, hq.symm]
  | stopRamp =>
    rw [hp] at hq
    rw [phaseMoves_stopRamp_iff hp]
    by_cases hgoal : s.duty = 0#7
    · simp [phaseState, hp, hgoal, h, eq_comm]
    · simp [phaseState, hp, hgoal, hq.symm]
  | penalty =>
    rw [phaseMoves_penalty_iff hp]
    simp [phaseState, hp, h, eq_comm]

/-- Settles O48: outside `stepsInPhase` PHASE stays and the table has no row; inside it the operation makes the row. -/
theorem phaseTransitions : Obligations.PhaseTransitions := by
  refine ⟨fun x s t q hx hstep hq => ?_, fun s => ⟨_, step_reset s, rfl⟩⟩
  obtain rfl : stimulusState x s = t := by simpa [step_feed] using hstep
  by_cases h : Claims.stepsInPhase x s
  · obtain ⟨⟨key, rfl⟩, hr, hd⟩ := (stepsInPhase_iff x s).mp h
    rw [stimulusState, sequencerState_of_dly_zero hr hd]
    exact phaseState_phase_iff h hq
  · rw [stimulusState_phase_of_not_stepsInPhase hx h]
    exact ⟨fun e => absurd e.symm hq, fun hmoves => absurd (stepsInPhase_of_phaseMoves hmoves) h⟩

/-! ### The end of a command -/

/-- A step that leaves the drive state leaves the count of R130. -/
theorem State.DriveFrame.stepsToIdle {s t : State} (h : s.DriveFrame t) : t.stepsToIdle = s.stepsToIdle := by
  simp only [State.stepsToIdle, h.dly, h.phase, h.target, h.duty]

/-- One stimulus takes one off the count of R130 if it is a sequencer step, and nothing otherwise. -/
theorem stepsToIdle_stimulusState {x : Stimulus} {s : State} (hx : x ≠ .reset) (hr : s.running = true)
    (h : [x].countP Claims.isSequencer ≤ s.stepsToIdle) :
    (stimulusState x s).stepsToIdle + [x].countP Claims.isSequencer = s.stepsToIdle := by
  cases x with
  | reset => exact absurd rfl hx
  | configure w => exact (stimulusState_driveFrame hx (by simp) s).stepsToIdle
  | tick => exact (stimulusState_driveFrame hx (by simp) s).stepsToIdle
  | sequencer key =>
    have hb : s.busy = true := by
      rw [← Bool.not_eq_false, ← stepsToIdle_eq_zero_iff]
      exact Nat.ne_of_gt h
    exact stepsToIdle_sequencerState hr hb key

/-- A run takes its sequencer steps off the count of R130, as long as there are not more of them. -/
theorem stepsToIdle_runStimuli {xs : List Stimulus} {s t : State} (hxs : ∀ x ∈ xs, x ≠ .reset)
    (hr : s.running = true) (h : xs.countP Claims.isSequencer ≤ s.stepsToIdle) (hrun : runStimuli xs s = .next t) :
    t.stepsToIdle + xs.countP Claims.isSequencer = s.stepsToIdle := by
  induction xs generalizing s with
  | nil => cases hrun; rfl
  | cons x xs ih =>
    obtain ⟨hx, hrest⟩ := List.forall_mem_cons.mp hxs
    have hr' : (stimulusState x s).running = true := (running_iff _).mpr (running_stimulusState hx hr)
    rw [← List.singleton_append, List.countP_append] at h ⊢
    rw [runStimuli_cons] at hrun
    have hfirst := stepsToIdle_stimulusState hx hr (by omega)
    have hlater := ih hrest hr' (by omega) hrun
    omega

/-- Settles O44: the formulas are `stepsToIdle`, which a run counts down and which is 0 exactly where BUSY = 0. -/
theorem commandsTerminate : Obligations.CommandsTerminate := by
  intro xs s n hc hf hxs hn
  have hcount : s.stepsToIdle = n := by
    rcases hn with ⟨hp, rfl⟩ | ⟨hp, rfl⟩ | ⟨hp, rfl⟩
    · rw [stepsToIdle_ramp hp, Nat.add_comm]; rfl
    · rw [stepsToIdle_stopRamp hp, Nat.add_comm]
    · exact stepsToIdle_penalty hp
  obtain ⟨t, hrun⟩ : ∃ t, runStimuli xs s = .next t := ⟨_, runStimuli_eq xs s⟩
  have hleft (h : xs.countP Claims.isSequencer ≤ n) : t.stepsToIdle + xs.countP Claims.isSequencer = n := by
    rw [← hcount] at h ⊢
    exact stepsToIdle_runStimuli hxs ((running_iff s).mpr ⟨hc, hf⟩) h hrun
  refine ⟨t, hrun, fun hlt => ?_, fun heq => ?_⟩
  · rw [← Bool.not_eq_false, ← stepsToIdle_eq_zero_iff]
    have := hleft hlt.le
    omega
  · rw [← not_busy_iff, ← stepsToIdle_eq_zero_iff]
    have := hleft heq.le
    omega

end Sys2Proof.Machine
end

section
/-! Proofs of the statements about the exceptions (spec 60_exceptions): that no step stops the block, and the cycle in which
the maintenance tick opens the gate for the key presented with it. -/

namespace Sys2Proof.Machine

/-- Settles O5: a step is one in which some stimulus arrives, listed or the environment's, and each stimulus has a next
state (R145). -/
theorem everyStepAnswersNext : Obligations.EveryStepAnswersNext := by
  intro s
  rcases step_eq_feed s with ⟨x, xs, -, e⟩ | ⟨-, e⟩ <;> rw [e]
  · exact ⟨_, step_feed x _⟩
  · exact ⟨_, step_feed (Config.environment s.envCount) _⟩

/-! ### Maintenance and a key in one cycle -/

/-- A configured block ignores the configure word of a cycle (R84). -/
theorem PortsIn.configurePart_of_configured {s : State} (hc : s.configured = true) (p : PortsIn) :
    p.configurePart s = s := by
  simp [PortsIn.configurePart, stimulusState, configureState, hc]

/-- The tick that reaches the limit is acknowledged and does the maintenance (R82, R94). -/
theorem tickState_at_limit {s : State} (hr : s.running = true) (hlim : s.tickCnt.toNat + 1 = s.tickLimit.toNat) :
    stimulusState .tick s = { s with tickCnt := 0#16, gate := true, trace := s.trace ++ [.ack, .maint] } := by
  rcases tickState_cases s with ⟨hr', -⟩ | ⟨-, -, e⟩ | ⟨-, hne, -⟩
  · simp [hr] at hr'
  · exact e
  · exact absurd hlim hne

/-- Settles O57: the configure step changes nothing, the tick leaves an accepting block, and its sequencer step takes the
key, whose command keeps GATE closed and TICK_CNT at 0. -/
theorem maintenanceAndKeyInOneCycle : Obligations.MaintenanceAndKeyInOneCycle := by
  intro p s t hrst htick hkey hc hf hp hd hlim hcycle
  have hr : s.running = true := (running_iff s).mpr ⟨hc, hf⟩
  have hparts : p.tickPart (p.configurePart s) =
      { s with tickCnt := 0#16, gate := true, trace := s.trace ++ [.ack, .maint] } := by
    rw [p.configurePart_of_configured hc, PortsIn.tickPart, if_pos htick, tickState_at_limit hr hlim]
  have haccepting : (p.tickPart (p.configurePart s)).accepting = true := by
    rw [hparts]
    exact (accepting_iff _).mpr ⟨hr, hp, hd, rfl⟩
  have hcmd : cycleState p s = commandState (decodeCommand p.keyCode)
      { s with tickCnt := 0#16, gate := false, trace := s.trace ++ [.ack, .maint] } := by
    rw [cycleState, if_neg (by simp [hrst]), PortsIn.key, if_pos hkey, sequencerState_accepting haccepting, hparts,
      State.disableGate]
  obtain rfl : cycleState p s = t := by simpa [cycle_eq] using hcycle
  rw [hcmd]
  exact ⟨commandState_gate _ _, (commandState_frame _ _).tickCnt, by rw [exec_command, handleCommand_eq]⟩

end Sys2Proof.Machine
end

section
/-! Proof of the statement about the reset cycle (spec 70_reset_and_hazards): that a cycle with rst = 1 is the reset step of
any state and shows nothing on the event ports. -/

namespace Sys2Proof.Machine

/-- While rst = 1 the other ports of a cycle are not looked at (R170). -/
theorem cycleState_of_rst {p : PortsIn} (hrst : p.rst = true) (s : State) : cycleState p s = s.resetStep := by
  rw [cycleState, if_pos hrst]

theorem registersAtReset_resetStep (s : State) : Claims.registersAtReset s.resetStep := by
  simp [Claims.registersAtReset]

/-- The reset step empties the trace, so whatever the trace was it has emitted nothing (R170). -/
theorem emittedSince_resetStep (s : State) : emittedSince s s.resetStep = [] := by
  simp [emittedSince]

theorem eventPorts_nil : eventPorts [] = EventPorts.quiet := rfl

/-- Settles O2: the next state of the cycle is `s.resetStep`, in every state and whatever the other ports carry. -/
theorem resetCycleTakesResetValues : Obligations.ResetCycleTakesResetValues := by
  intro p s hrst
  refine ⟨s.resetStep, ?_, registersAtReset_resetStep s, resetStep_pwmHeld s, ?_, step_reset s⟩
  · rw [cycle_eq, cycleState_of_rst hrst]
  · rw [emittedSince_resetStep, eventPorts_nil]

end Sys2Proof.Machine
end

section
/-! Proofs of the statements about the model's own conventions (log entries 2, 7 and 8): what a step runs in terms of the
list of inputs, where a stimulus no list gives comes from, and how a bare table word is read and placed. -/

namespace Sys2Proof.Machine

/-! ### What a step runs -/

/-- The operation of the word selected is what is selected: a reset selects no word. -/
theorem select_of_selectWord {s : State} {w : PortWord} {i : Instr} (hword : s.selectWord = some w)
    (hdecode : decode w = .ok i) : s.select = .run i := by
  cases hinputs : s.inputs with
  | nil => simp [State.selectWord, hinputs] at hword
  | cons x xs =>
    cases x with
    | reset => simp [State.selectWord, hinputs] at hword
    | configure | tick | sequencer => simp [State.select, hinputs, hword, hdecode]

/-- Apart from a reset, a stimulus that selects no word selects nothing (R68 line 1). -/
theorem select_feed_of_no_word {x : Stimulus} {s : State} (hx : x ≠ .reset) (hword : (s.feed x).selectWord = none) :
    (s.feed x).select = .nothing := by
  cases x with
  | reset => exact absurd rfl hx
  | configure | tick | sequencer => simp [State.select, hword]

theorem step_of_select_run {s : State} {i : Instr} (h : s.present.select = .run i) :
    step s = mapNext State.retire (exec i s.present) := by
  simp [step, h]

theorem step_of_select_nothing {s : State} (h : s.present.select = .nothing) : step s = .next s.present.retire := by
  simp [step, h]

/-- Settles O13: the word selected and its decoding give the selection, and the step follows the selection. -/
theorem stepRunsTheDecodedOperation : Obligations.StepRunsTheDecodedOperation := by
  refine ⟨fun s w i hword hdecode => step_of_select_run (select_of_selectWord hword hdecode),
    fun x s hx hword => ?_, fun _ _ => rfl, fun _ => rfl, fun x s => ⟨present_feed x s, retire_feed x s⟩⟩
  exact step_of_select_nothing (select_feed_of_no_word hx hword)

/-- Settles O59: of the two kinds of step, the one with a listed stimulus is excluded. -/
theorem unlistedInputsAreFree : Obligations.UnlistedInputsAreFree := by
  intro s hinputs
  rcases step_eq_feed s with ⟨x, xs, hlisted, -⟩ | ⟨-, hfree⟩
  · simp [hinputs] at hlisted
  · rw [hfree, hinputs]

/-! ### Bare words -/

theorem withFetchWord_of_port {nbits w : Nat} {pw : PortWord} (h : portWordOf nbits w = .ok pw) (s : State) :
    s.withFetchWord nbits w = s.placeWord pw := by
  simp [State.withFetchWord, State.placeRaw, h]

theorem withFetchWord_of_no_port {nbits w : Nat} {e : DecodeError} (h : portWordOf nbits w = .error e) (s : State) :
    s.withFetchWord nbits w = s := by
  simp [State.withFetchWord, State.placeRaw, h]

theorem decodeTableWord_of_port {nbits w : Nat} {pw : PortWord} {i : Instr} (h : portWordOf nbits w = .ok pw)
    (hdecode : decode pw = .ok i) : decodeTableWord nbits w = some i := by
  simp [decodeTableWord, decodeRaw, h, hdecode]

theorem decodeTableWord_of_no_port {nbits w : Nat} {e : DecodeError} (h : portWordOf nbits w = .error e) :
    decodeTableWord nbits w = none := by
  simp [decodeTableWord, decodeRaw, h]

/-! ### Placed words -/

/-- Every word but the tick bit 0 is placed with a stimulus in front, so nothing is drawn from the environment. -/
theorem present_placeWord {pw : PortWord} (h : pw ≠ .evt 0#1) (s : State) :
    (s.placeWord pw).present = s.placeWord pw := by
  cases pw with
  | cfg | noKey | key | seq => rfl
  | evt b =>
    obtain rfl : b = 1#1 := by revert b; decide
    rfl

theorem phase_ofBits_bits (b : BitVec 2) : (Phase.ofBits b).bits = b := by
  revert b; decide

theorem select_placeWord_cfg (w : ConfigWord) (s : State) :
    (s.placeWord (.cfg w)).select = .run (.configure (configSelector w) (configLimit w)) := rfl

theorem select_placeWord_tick (s : State) : (s.placeWord (.evt 1#1)).select = .run .tick := rfl

/-- The PHASE and hold placed are the ones the running sequencer selects by (R68). -/
theorem select_placeWord_seq (b : BitVec 2) (hold : Bool) (s : State) :
    (s.placeWord (.seq b hold)).select = .run (decodeSequencer b hold) := by
  have hselect : (s.placeWord (.seq b hold)).select =
      .run (decodeSequencer (Phase.ofBits b).bits ((if hold then 1 else 0) != 0)) := select_sequencer none _
  have hhold : ((if hold then 1 else 0) != 0) = hold := by cases hold <;> rfl
  rw [hselect, phase_ofBits_bits, hhold]

/-- A key, or no key, is placed in a running block that is idle, whose sequencer polls (R68). -/
theorem select_placeWord_key (c : KeyCode) (s : State) : (s.placeWord (.key c)).select = .run .keypoll :=
  select_sequencer (some c) _

theorem select_placeWord_noKey (s : State) : (s.placeWord .noKey).select = .run .keypoll :=
  select_sequencer none _

/-- KEYPOLL takes the placed key: it closes the gate and dispatches the key's command (R90). -/
theorem exec_keypoll_placeWord_key (c : KeyCode) (s : State) :
    exec .keypoll (s.placeWord (.key c)) =
      exec (decodeCommand c).instr { s.placeWord (.key c) with gate := false } := by
  have hgate : (s.placeWord (.key c)).gate = true := rfl
  have hkey : (s.placeWord (.key c)).keyPoll = some c := rfl
  rw [exec, execKeypoll_of_running rfl, hkey, pollState_some hgate, exec_command, handleCommand_eq, State.disableGate]

/-- KEYPOLL finds no key, and is then NOKEY (R92). -/
theorem exec_keypoll_placeWord_noKey (s : State) :
    exec .keypoll (s.placeWord .noKey) = exec .nokey (s.placeWord .noKey) := by
  have hkey : (s.placeWord .noKey).keyPoll = none := rfl
  show execKeypoll (s.placeWord .noKey) = execNokey (s.placeWord .noKey)
  rw [execKeypoll_of_running rfl, hkey, pollState_none, execNokey]

/-- Settles O15: the port of the width, then the word's placing, then what the placed word selects. -/
theorem placedWordIsRun : Obligations.PlacedWordIsRun := by
  refine ⟨fun s _ _ _ hport => ⟨withFetchWord_of_port hport s, fun _ => decodeTableWord_of_port hport⟩,
    fun s _ _ _ hport => ⟨withFetchWord_of_no_port hport s, decodeTableWord_of_no_port hport⟩,
    fun _ => ⟨fun h => if_pos h, fun h => if_pos h, fun h => if_pos h, fun h => ⟨if_pos h, if_pos h⟩,
      fun h => if_pos h⟩,
    fun s pw i hselect hpw => ?_, fun s w => select_placeWord_cfg w s, select_placeWord_tick,
    fun s b hold => select_placeWord_seq b hold s,
    fun s c => ⟨select_placeWord_key c s, exec_keypoll_placeWord_key c s⟩,
    fun s => ⟨select_placeWord_noKey s, exec_keypoll_placeWord_noKey s⟩⟩
  have hpresent := present_placeWord hpw s
  rw [← hpresent] at hselect
  rw [step_of_select_run hselect, hpresent]

end Sys2Proof.Machine
end
